-- ==== Sys2Proof/Word.lean ====
section
/-! DEFINITION. The widths of the engine's values (spec/00_scope.md R5, R6): plain bit vectors, bit 0 least significant. -/

namespace Sys2Proof

/-- A host register's value, and a command word: 64 bits (00_scope.md R5, `REG_BITS`). -/
abbrev Word := BitVec 64

/-- A cipher block: 64 bits (00_scope.md R5, `BLOCK_BITS`). -/
abbrev Block := BitVec 64

/-- An element of the 32-bit kernel (00_scope.md R5, `FIELD_BITS`). -/
abbrev FieldElt := BitVec 32

/-- A 4-bit lane of a block (00_scope.md R5). -/
abbrev Nibble := BitVec 4

/-- The ARG field of a command word (30_encoding.md R71). -/
abbrev Arg := BitVec 8

end Sys2Proof
end

