-- ==== Sys2Proof/Config.lean ====
section
/-! DEFINITION. What an implementation of the engine fixes: its parameters (spec/00_scope.md R5), the names of its
registers (spec/10_state.md R20) and of its error codes (spec/60_exceptions.md R200), and the open latency
(spec/92_eei_decisions.md D25). -/

namespace Sys2Proof

/-- The time a command write with this opcode takes (70_reset_and_hazards.md R237, D25: OPEN). It is a function of
the opcode alone, so it cannot depend on data. No rule and no step reads it: log entry 10. -/
opaque Config.cmdLatency : BitVec 8 → Nat

/-- `WINDOW_BYTES` (00_scope.md R5, 20_memory.md R50). -/
def Config.windowBytes : Nat := 128

/-- The sixteen host registers, by name (10_state.md R20). -/
inductive Register where
  | KEY0 | KEY1 | NONCE | DIN | OPA | OPB | RES | DOUT
  | Y | BETA | FS_MX2 | FS_MX2X3 | FS_MX2X3X3 | ID | STATUS | CMD
  deriving DecidableEq, Repr

/-- The outcomes STATUS.LAST_ERR can record (60_exceptions.md R200). Codes 9 to 15 are never produced, so they have
no name here (U25). Who records each is said at the constructor; all are precise and stop nothing (R203, R206). -/
inductive ErrorCode where
  /-- Code 0: every accepted command. -/
  | ok
  /-- Code 1: a command word whose bits 7:0 are no assigned opcode. -/
  | illegalOpcode
  /-- Code 2: RSVD not 0, or ARG not 0 for a command without an argument. -/
  | reservedBits
  /-- Code 3: ARG outside the command's legal range. -/
  | argRange
  /-- Code 4: COFB_BLOCK while PHASE is not ABSORB. -/
  | seqError
  /-- Code 5: GF_OPER or GF_SEED while PHASE is ABSORB. -/
  | msgBusy
  /-- Code 6: a write to KEY0, KEY1 or NONCE while PHASE is ABSORB. -/
  | locked
  /-- Code 7: an access that is not 8 bytes at a multiple of 8. -/
  | badAccess
  /-- Code 8: a write to a read-only register. -/
  | readOnly
  deriving DecidableEq, Repr

end Sys2Proof
end

