-- ==== Sys2Proof/Syntax.lean ====
section
/-! DEFINITION. The 24 commands of spec/opcode_table.json (spec/30_encoding.md R73). A command that takes ARG carries
the field as it stands in the word; which values are legal is said in WellFormed.lean. -/

namespace Sys2Proof

/-- One constructor per row of the opcode table, in its order. -/
inductive Instr where
  | nop
  | sreset
  | nibRd (p : Arg)
  | nibWr (p : Arg)
  | gfAdd
  | gfDbl
  | gfTpl
  | gfOper (i : Arg)
  | gfSeed
  | subcell
  | shuffle
  | shuffleInv
  | mixcol
  | keyadd
  | round (i : Arg)
  | ksWk
  | ksRk (i : Arg)
  | midoriEnc
  | maskgen
  | mulgy
  | cofbInitEnc
  | cofbInitDec
  | cofbBlock
  | cofbAbort
  deriving DecidableEq, Repr

end Sys2Proof
end

