-- ==== Sys2Proof/WellFormed.lean ====
section
/-! DEFINITION. The legal ARG values (spec/30_encoding.md R73, column "legal ARG", and R74 step 3). -/

namespace Sys2Proof

/-- Whether the command's ARG is in its legal range (R73). -/
def Instr.wellFormed : Instr → Bool
  | .nibRd p => decide (p.toNat ≤ 15)
  | .nibWr p => decide (p.toNat ≤ 15)
  | .gfOper i => decide (1 ≤ i.toNat ∧ i.toNat ≤ 4)
  | .round i => decide (i.toNat ≤ 14)
  | .ksRk i => decide (i.toNat ≤ 14)
  | .nop | .sreset | .gfAdd | .gfDbl | .gfTpl | .gfSeed | .subcell | .shuffle | .shuffleInv | .mixcol | .keyadd
  | .ksWk | .midoriEnc | .maskgen | .mulgy | .cofbInitEnc | .cofbInitDec | .cofbBlock | .cofbAbort => true

end Sys2Proof
end

