-- ==== Sys2Proof/Decode.lean ====
section
/-! DEFINITION. Reading and writing command words (spec/30_encoding.md R70 to R76), and the host's entry
`decodeTableWord`. Every word decodes to a command or to the error code R74 gives it. -/

namespace Sys2Proof

/-- OPC, bits 7:0 (R71). -/
def opcOf (w : Word) : BitVec 8 := w.extractLsb' 0 8

/-- ARG, bits 15:8 (R71). -/
def argOf (w : Word) : Arg := w.extractLsb' 8 8

/-- RSVD, bits 63:16 (R71). -/
def rsvdOf (w : Word) : BitVec 48 := w.extractLsb' 16 48

/-- A row of the opcode map: a command without an argument, or one that takes ARG (R73). -/
inductive OpcodeRow where
  | plain (i : Instr)
  | withArg (mk : Arg → Instr)

/-- The opcode map (R73); `none` is an unassigned opcode. -/
def opcodeRow (opc : BitVec 8) : Option OpcodeRow :=
  match opc.toNat with
  | 0x00 => some (.plain .nop)
  | 0x01 => some (.plain .sreset)
  | 0x10 => some (.withArg .nibRd)
  | 0x11 => some (.withArg .nibWr)
  | 0x20 => some (.plain .gfAdd)
  | 0x21 => some (.plain .gfDbl)
  | 0x22 => some (.plain .gfTpl)
  | 0x23 => some (.withArg .gfOper)
  | 0x24 => some (.plain .gfSeed)
  | 0x30 => some (.plain .subcell)
  | 0x31 => some (.plain .shuffle)
  | 0x32 => some (.plain .shuffleInv)
  | 0x33 => some (.plain .mixcol)
  | 0x34 => some (.plain .keyadd)
  | 0x35 => some (.withArg .round)
  | 0x40 => some (.plain .ksWk)
  | 0x41 => some (.withArg .ksRk)
  | 0x42 => some (.plain .midoriEnc)
  | 0x50 => some (.plain .maskgen)
  | 0x51 => some (.plain .mulgy)
  | 0x60 => some (.plain .cofbInitEnc)
  | 0x61 => some (.plain .cofbInitDec)
  | 0x62 => some (.plain .cofbBlock)
  | 0x63 => some (.plain .cofbAbort)
  | _ => none

/-- `decodeCheck` of R77 together with the command it lets through: the three checks of R74 in their order. -/
def decode (w : Word) : Except ErrorCode Instr :=
  match opcodeRow (opcOf w) with
  | none => .error .illegalOpcode
  | some (.plain i) => if rsvdOf w ≠ 0 ∨ argOf w ≠ 0 then .error .reservedBits else .ok i
  | some (.withArg mk) =>
    if rsvdOf w ≠ 0 then .error .reservedBits
    else if (mk (argOf w)).wellFormed then .ok (mk (argOf w))
    else .error .argRange

/-- The command's opcode (R73). -/
def Instr.opcode : Instr → BitVec 8
  | .nop => 0x00
  | .sreset => 0x01
  | .nibRd _ => 0x10
  | .nibWr _ => 0x11
  | .gfAdd => 0x20
  | .gfDbl => 0x21
  | .gfTpl => 0x22
  | .gfOper _ => 0x23
  | .gfSeed => 0x24
  | .subcell => 0x30
  | .shuffle => 0x31
  | .shuffleInv => 0x32
  | .mixcol => 0x33
  | .keyadd => 0x34
  | .round _ => 0x35
  | .ksWk => 0x40
  | .ksRk _ => 0x41
  | .midoriEnc => 0x42
  | .maskgen => 0x50
  | .mulgy => 0x51
  | .cofbInitEnc => 0x60
  | .cofbInitDec => 0x61
  | .cofbBlock => 0x62
  | .cofbAbort => 0x63

/-- The command's ARG field: 0 for a command without an argument (R71). -/
def Instr.arg : Instr → Arg
  | .nibRd p | .nibWr p => p
  | .gfOper i | .round i | .ksRk i => i
  | .nop | .sreset | .gfAdd | .gfDbl | .gfTpl | .gfSeed | .subcell | .shuffle | .shuffleInv | .mixcol | .keyadd
  | .ksWk | .midoriEnc | .maskgen | .mulgy | .cofbInitEnc | .cofbInitDec | .cofbBlock | .cofbAbort => 0

/-- `zext_64(arg << 8 | OPC)` (30_encoding.md R78). -/
def commandWord (opc : BitVec 8) (arg : Arg) : Word := (arg.setWidth 64 <<< 8) ||| opc.setWidth 64

/-- The command word of a command (R71, R78). -/
def encode (i : Instr) : Word := commandWord i.opcode i.arg

/-- The host's entry: the command the decoder reads from the `nbits` low bits of `w`, the bits above being 0. A
command is one 64-bit bus value, so there is no byte order to apply (20_memory.md R52, 30_encoding.md R75). -/
def decodeTableWord (nbits w : Nat) : Option Instr :=
  match decode (BitVec.ofNat 64 (w % 2 ^ nbits)) with
  | .ok i => some i
  | .error _ => none

end Sys2Proof
end

