-- ==== Sys2Proof/Machine/State.lean ====
section
/-! DEFINITION. The state of the machine (spec/10_state.md R38), as plain data, with what stands between the engine and
its host: the accesses not yet performed, the values read, the window's place and the level of the reset input. -/

namespace Sys2Proof.Machine

/-- The three words of the power sequence (10_state.md R30). -/
structure FieldState where
  mx2 : FieldElt
  mx2x3 : FieldElt
  mx2x3x3 : FieldElt
  deriving DecidableEq, Repr

/-- STATUS.DIR (10_state.md R31, R34). -/
inductive Direction where
  | encrypt
  | decrypt
  deriving DecidableEq, Repr

/-- One thing the outside world does to the engine. -/
inductive BusEvent where
  /-- `MemRead(addr, n)` (20_memory.md R53). -/
  | read (addr n : Nat)
  /-- `MemWrite(addr, n, v)` (20_memory.md R54). -/
  | write (addr n : Nat) (v : Word)
  /-- The reset input becomes asserted (70_reset_and_hazards.md R230). -/
  | resetAssert
  /-- The reset input is released (70_reset_and_hazards.md R230). -/
  | resetRelease
  deriving DecidableEq, Repr

/-- The machine's state. The fields down to `lastErr` are R38's whole list. The last four are the model's own. -/
structure State where
  /-- Key half K0 (R21). -/
  key0 : Word
  /-- Key half K1 (R21). -/
  key1 : Word
  /-- The nonce (R22). -/
  nonce : Word
  /-- The block the next COFB_BLOCK consumes (R23). -/
  din : Word
  /-- First operand of a primitive command (R24). -/
  opa : Word
  /-- Second operand of a primitive command (R24). -/
  opb : Word
  /-- Result of the last accepted primitive command (R25). -/
  res : Word
  /-- Output of the last payload block (R26). -/
  dout : Word
  /-- The chaining value, and the tag when PHASE = DONE (R27). -/
  y : Word
  /-- The base mask (R28). -/
  beta : FieldElt
  /-- The FieldState (R30). -/
  fs : FieldState
  /-- The block counter EXP, in 0..4 (R29, R38): log entry 8. -/
  exp : Fin 5
  /-- STATUS.DIR (R34). -/
  dir : Direction
  /-- STATUS.DOUT_VALID (R34). -/
  doutValid : Bool
  /-- STATUS.ERR, sticky (R31, R205). -/
  err : Bool
  /-- STATUS.LAST_ERR (R31, R200): log entry 8. -/
  lastErr : ErrorCode
  /-- The model's own: BASE is 128 times this (20_memory.md R50, D26): log entry 3. -/
  window : Nat
  /-- The model's own: the level of the reset input (R230): log entry 6. -/
  resetAsserted : Bool
  /-- The model's own: what the host has issued and the engine has not performed, oldest first (R58): log entry 1. -/
  pending : List BusEvent
  /-- The model's own: the values the engine's reads returned so far, oldest first (R53): log entry 2. -/
  readData : List Word
  deriving DecidableEq, Repr

/-- Why the machine stops with a fault. There is no reason: no input makes the engine stop or hang, and it takes the
next access as normal (60_exceptions.md R206; 93_implementation_defined.md, treatments; log entry 4). -/
inductive Fault
  deriving DecidableEq, Repr

/-- Why a step is refused. No command of this engine is: every arm of `exec` has its meaning. -/
inductive Refusal where
  /-- Would be raised by the arm of a command that has no meaning yet; no arm raises it. Safe. -/
  | notModelled (mnemonic : String)
  deriving DecidableEq, Repr

/-- What a step answers. -/
abbrev Result := Host.Outcome State Fault Refusal

/-- The machine right after reset (10_state.md R20, R31; 70_reset_and_hazards.md R230): every register 0. The host has
issued nothing and read nothing, and the window stands at 0 (log entries 1 to 3). -/
def State.reset : State where
  key0 := 0
  key1 := 0
  nonce := 0
  din := 0
  opa := 0
  opb := 0
  res := 0
  dout := 0
  y := 0
  beta := 0
  fs := { mx2 := 0, mx2x3 := 0, mx2x3x3 := 0 }
  exp := 0
  dir := .encrypt
  doutValid := false
  err := false
  lastErr := .ok
  window := 0
  resetAsserted := false
  pending := []
  readData := []

end Sys2Proof.Machine
end

