-- ==== Sys2Proof/Machine/Flags.lean ====
section
/-! DEFINITION. STATUS, bit by bit (spec/10_state.md R31, R32; spec/60_exceptions.md R200). The engine has no arithmetic
flags (R39): these are its only status bits. -/

namespace Sys2Proof.Machine

/-- The three phases (R32). -/
inductive Phase where
  | idle
  | absorb
  | done
  deriving DecidableEq, Repr

/-- PHASE is computed from EXP (R32). -/
def phaseOf (e : Fin 5) : Phase := if e = 0 then .idle else if e = 4 then .done else .absorb

/-- The phase a state is in (R32). -/
def State.phase (s : State) : Phase := phaseOf s.exp

/-- STATUS bits 4:3 (R31). -/
def phaseBits : Phase → BitVec 2
  | .idle => 0
  | .absorb => 1
  | .done => 2

/-- The code of LAST_ERR (60_exceptions.md R200). -/
def errorBits : ErrorCode → BitVec 4
  | .ok => 0
  | .illegalOpcode => 1
  | .reservedBits => 2
  | .argRange => 3
  | .seqError => 4
  | .msgBusy => 5
  | .locked => 6
  | .badAccess => 7
  | .readOnly => 8

/-- STATUS bit 5 (R31). -/
def directionBit : Direction → BitVec 1
  | .encrypt => 0
  | .decrypt => 1

/-- STATUS as a read returns it (20_memory.md R53). -/
def statusWord (s : State) : Word :=
  ((BitVec.ofBool s.err).setWidth 64 <<< 7
      ||| (BitVec.ofBool s.doutValid).setWidth 64 <<< 6
      ||| (directionBit s.dir).setWidth 64 <<< 5
      ||| (phaseBits s.phase).setWidth 64 <<< 3
      ||| BitVec.ofNat 64 s.exp.val)
    ||| (errorBits s.lastErr).setWidth 64 <<< 8

end Sys2Proof.Machine
end

