-- ==== Sys2Proof/Machine/Ops.lean ====
section
/-! DEFINITION. The shared operations: recording an error and accepting a command (spec/60_exceptions.md R203, R204),
the register reads of the window (spec/20_memory.md R53) and the state updates the commands are made of. -/

namespace Sys2Proof.Machine

/-- `raise Error(code)`: LAST_ERR and ERR are written and nothing else changes (R203). There is no trap and no return
from one (R206). -/
def State.raiseError (c : ErrorCode) (s : State) : State := { s with lastErr := c, err := true }

/-- The end of an accepted command: LAST_ERR <- OK, ERR as it was (R77, R204, R205). -/
def State.recordOk (s : State) : State := { s with lastErr := .ok }

/-- A refused command: the machine goes on with the error recorded (R203, R206). -/
def refuse (c : ErrorCode) (s : State) : Result := .next (s.raiseError c)

/-- An accepted command whose effect leaves `s` (R77). -/
def accept (s : State) : Result := .next s.recordOk

/-- `x[RES] <- v` (R25). -/
def State.setRes (v : Word) (s : State) : State := { s with res := v }

/-- FS takes a new value (R30). -/
def State.setFs (fs : FieldState) (s : State) : State := { s with fs := fs }

/-- The FieldState with one value in all three words (41_field.md R119, 46_cofb.md R181). -/
def FieldState.splat (b : FieldElt) : FieldState := { mx2 := b, mx2x3 := b, mx2x3x3 := b }

/-- `x[Y] <- v` (R27). -/
def State.setY (v : Word) (s : State) : State := { s with y := v }

/-- `x[DOUT] <- v; DOUT_VALID <- 1`: a payload block's output (46_cofb.md R184). -/
def State.setOutput (v : Word) (s : State) : State := { s with dout := v, doutValid := true }

/-- `DOUT_VALID <- 0`, DOUT unchanged: a pre-payload block (46_cofb.md R184). -/
def State.noOutput (s : State) : State := { s with doutValid := false }

/-- `EXP <- e` (R29). -/
def State.setExp (e : Fin 5) (s : State) : State := { s with exp := e }

/-- The writes of msgInit, given the first cipher output and the base mask (46_cofb.md R181). -/
def State.beginMessage (d : Direction) (y0 : Block) (b : FieldElt) (s : State) : State :=
  { s with y := y0, beta := b, fs := .splat b, exp := 1, dir := d, dout := 0, doutValid := false }

/-- The writes of COFB_ABORT (46_cofb.md R190). -/
def State.clearMessage (s : State) : State :=
  { s with y := 0, beta := 0, fs := .splat 0, dout := 0, doutValid := false, exp := 0 }

/-- Every register takes its reset value (47_system.md R196, 70_reset_and_hazards.md R230). The host's side, the window's
place and the reset input are no registers of the engine and stay (log entry 7). -/
def State.resetRegisters (s : State) : State :=
  { s with
    key0 := 0, key1 := 0, nonce := 0, din := 0, opa := 0, opb := 0, res := 0, dout := 0, y := 0, beta := 0,
    fs := .splat 0, exp := 0, dir := .encrypt, doutValid := false, err := false, lastErr := .ok }

/-- The value of ID (10_state.md R20): ASCII "COFBM64", then revision 0x01. -/
def idValue : Word := 0x434F46424D363401

/-- The value an accepted read of a register returns (20_memory.md R53; 10_state.md R20, R33). -/
def State.readRegister (s : State) : Register → Word
  | .KEY0 => s.key0
  | .KEY1 => s.key1
  | .NONCE => s.nonce
  | .DIN => s.din
  | .OPA => s.opa
  | .OPB => s.opb
  | .RES => s.res
  | .DOUT => s.dout
  | .Y => s.y
  | .BETA => s.beta.setWidth 64
  | .FS_MX2 => s.fs.mx2.setWidth 64
  | .FS_MX2X3 => s.fs.mx2x3.setWidth 64
  | .FS_MX2X3X3 => s.fs.mx2x3x3.setWidth 64
  | .ID => idValue
  | .STATUS => statusWord s
  | .CMD => 0

/-- BASE, the byte address of the window (20_memory.md R50, D26). -/
def State.base (s : State) : Nat := Config.windowBytes * s.window

/-- The host's next event is taken from the list (20_memory.md R58). -/
def State.setPending (es : List BusEvent) (s : State) : State := { s with pending := es }

/-- A read's value goes to the host (20_memory.md R53). -/
def State.returnData (v : Word) (s : State) : State := { s with readData := s.readData ++ [v] }

end Sys2Proof.Machine
end

