-- ==== Sys2Proof/Machine/Operands.lean ====
section
/-! DEFINITION. The operand forms (spec/30_encoding.md R72, spec/92_eei_decisions.md D27): what each command takes from
ARG and from the operand registers. A range check that fails answers `none`. -/

namespace Sys2Proof.Machine

/-- The four legal indices of the power sequence (41_field.md R114). -/
inductive OperIndex where
  | one
  | two
  | three
  | four
  deriving DecidableEq, Repr

/-- The master key (10_state.md R21). -/
structure Key where
  k0 : Block
  k1 : Block
  deriving DecidableEq, Repr

/-- A nibble position p in 0..15 (40_nibble.md R102, R103). -/
def nibblePos? (p : Arg) : Option (Fin 16) := if h : p.toNat < 16 then some ⟨p.toNat, h⟩ else none

/-- A round index i in 0..14 (42_round.md R140, 43_keyschedule.md R154). -/
def roundIndex? (i : Arg) : Option (Fin 15) := if h : i.toNat < 15 then some ⟨i.toNat, h⟩ else none

/-- A sequence index i in 1..4 (41_field.md R118). -/
def operIndex? (i : Arg) : Option OperIndex :=
  if i = 1 then some .one
  else if i = 2 then some .two
  else if i = 3 then some .three
  else if i = 4 then some .four
  else none

/-- The sequence index of a COFB_BLOCK: EXP itself while PHASE = ABSORB (46_cofb.md R184), none outside it. -/
def absorbIndex? (e : Fin 5) : Option OperIndex :=
  if e = 1 then some .one else if e = 2 then some .two else if e = 3 then some .three else none

/-- `x[OPA][31:0]` (D27). -/
def State.opaField (s : State) : FieldElt := s.opa.extractLsb' 0 32

/-- `x[OPB][31:0]` (D27). -/
def State.opbField (s : State) : FieldElt := s.opb.extractLsb' 0 32

/-- `x[OPB][3:0]` (40_nibble.md R103). -/
def State.opbNibble (s : State) : Nibble := s.opb.extractLsb' 0 4

/-- `K = (x[KEY0], x[KEY1])`, read at the moment the command runs (10_state.md R21, D31). -/
def State.key (s : State) : Key := { k0 := s.key0, k1 := s.key1 }

end Sys2Proof.Machine
end

