-- ==== Sys2Proof/Machine/Nibble.lean ====
section
/-! DEFINITION. The nibble primitives (spec/40_nibble.md). -/

namespace Sys2Proof.Machine

/-- Nibble `p` of a block, position 0 the most significant (R100). -/
def nib (b : Block) (p : Fin 16) : Nibble := ((b >>> (4 * (15 - p.val))) &&& 0xF#64).setWidth 4

/-- A block with nibble `p` replaced (R101). -/
def setnib (b : Block) (p : Fin 16) (v : Nibble) : Block :=
  (b &&& ~~~(0xF#64 <<< (4 * (15 - p.val)))) ||| (v.setWidth 64 <<< (4 * (15 - p.val)))

/-- The positions 0 to 15, in order. -/
def nibblePositions : List (Fin 16) := [0, 1, 2, 3, 4, 5, 6, 7, 8, 9, 10, 11, 12, 13, 14, 15]

/-- `out <- 0; for p = 0..15: out <- setnib(out, p, f(p))`, the loop of 42_round.md R132 and 43_keyschedule.md R152. -/
def buildBlock (f : Fin 16 → Nibble) : Block := nibblePositions.foldl (fun out p => setnib out p (f p)) 0

/-- A nibble as an index into a packed table (42_round.md R130). -/
def nibbleIndex (v : Nibble) : Fin 16 := ⟨v.toNat, v.isLt⟩

/-- NIB_RD (R102). -/
def execNibRd (p : Arg) (s : State) : Result :=
  match nibblePos? p with
  | none => refuse .argRange s
  | some q => accept (s.setRes ((nib s.opa q).setWidth 64))

/-- NIB_WR (R103). -/
def execNibWr (p : Arg) (s : State) : Result :=
  match nibblePos? p with
  | none => refuse .argRange s
  | some q => accept (s.setRes (setnib s.opa q s.opbNibble))

end Sys2Proof.Machine
end

