-- ==== Sys2Proof/Machine/KeySchedule.lean ====
section
/-! DEFINITION. The key schedule (spec/43_keyschedule.md). -/

namespace Sys2Proof.Machine

/-- The round constants RC[0..15] (R150). RC[15] stands in the table and no rule reads it (C3). -/
def roundConstants : Vector (BitVec 16) 16 :=
  #v[0x15B3, 0x78C0, 0xA435, 0x6213, 0x104F, 0xD170, 0x0266, 0x0BCC,
     0x9481, 0x40B8, 0x7197, 0x228E, 0x5130, 0xF8CA, 0xDF90, 0x7C81]

/-- The whitening key (R151). -/
def whiteningKey (k : Key) : Block := k.k0 ^^^ k.k1

/-- Round key `i`: the even rounds take K0, the odd ones K1, and bit `15 - j` of RC[i] is added to the low bit of
nibble `j` (R152). -/
def roundKey (k : Key) (i : Fin 15) : Block :=
  let src := if i.val % 2 = 0 then k.k0 else k.k1
  buildBlock fun j => nib src j ^^^ ((roundConstants[i.val] >>> (15 - j.val)) &&& 1#16).setWidth 4

/-- KS_WK (R153). -/
def execKsWk (s : State) : Result := accept (s.setRes (whiteningKey s.key))

/-- KS_RK (R154). -/
def execKsRk (i : Arg) (s : State) : Result :=
  match roundIndex? i with
  | none => refuse .argRange s
  | some k => accept (s.setRes (roundKey s.key k))

end Sys2Proof.Machine
end

