-- ==== Sys2Proof/Machine/Round.lean ====
section
/-! DEFINITION. The Midori-64 round primitives (spec/42_round.md). -/

namespace Sys2Proof.Machine

/-- The packed S-box: nibble `v` is the output for input `v` (R130). -/
def sb0 : Block := 0xCAD3EBF789150246

/-- The packed forward permutation: the nibble at output `p` is the source index (R131). -/
def shuffleP : Block := 0x0A5FE4B193C67D28

/-- The packed inverse permutation (R131). -/
def shufflePInv : Block := 0x07E952BCF816AD43

/-- SubCell (R132). -/
def subCell (s : Block) : Block := buildBlock fun p => nib sb0 (nibbleIndex (nib s p))

/-- ShuffleCell, forward or inverse (R132). -/
def shuffleCell (s : Block) (inv : Bool) : Block :=
  let t := if inv then shufflePInv else shuffleP
  buildBlock fun p => nib s (nibbleIndex (nib t p))

/-- Position `4c + k` (R132). -/
def columnPos (c k : Fin 4) : Fin 16 := ⟨4 * c.val + k.val, by omega⟩

/-- `par` of column `c`: the XOR of its four nibbles (R132). -/
def columnParity (s : Block) (c : Fin 4) : Nibble :=
  nib s (columnPos c 0) ^^^ nib s (columnPos c 1) ^^^ nib s (columnPos c 2) ^^^ nib s (columnPos c 3)

/-- MixColumn (R132): position `p` is in column `p / 4` (C1). -/
def mixColumn (s : Block) : Block := buildBlock fun p => columnParity s ⟨p.val / 4, by omega⟩ ^^^ nib s p

/-- KeyAdd (R132). -/
def keyAdd (s k : Block) : Block := s ^^^ k

/-- Round `i` under key `k` (R134). -/
def roundFn (k : Key) (i : Fin 15) (s : Block) : Block :=
  keyAdd (mixColumn (shuffleCell (subCell s) false)) (roundKey k i)

/-- SUBCELL (R135). -/
def execSubcell (s : State) : Result := accept (s.setRes (subCell s.opa))

/-- SHUFFLE (R136). -/
def execShuffle (s : State) : Result := accept (s.setRes (shuffleCell s.opa false))

/-- SHUFFLE_INV (R137). -/
def execShuffleInv (s : State) : Result := accept (s.setRes (shuffleCell s.opa true))

/-- MIXCOL (R138). -/
def execMixcol (s : State) : Result := accept (s.setRes (mixColumn s.opa))

/-- KEYADD (R139). -/
def execKeyadd (s : State) : Result := accept (s.setRes (keyAdd s.opa s.opb))

/-- ROUND (R140). -/
def execRound (i : Arg) (s : State) : Result :=
  match roundIndex? i with
  | none => refuse .argRange s
  | some k => accept (s.setRes (roundFn s.key k s.opa))

end Sys2Proof.Machine
end

