-- ==== Sys2Proof/Machine/Cipher.lean ====
section
/-! DEFINITION. The cipher driver, forward direction (spec/44_cipher.md). -/

namespace Sys2Proof.Machine

/-- The rounds 0 to 14, in order. -/
def roundIndices : List (Fin 15) := [0, 1, 2, 3, 4, 5, 6, 7, 8, 9, 10, 11, 12, 13, 14]

/-- `midori(S, K)` (R160): whitening, 15 full rounds, a last SubCell, whitening. The keys are computed from `k` anew at
each evaluation (R162). -/
def midori (s : Block) (k : Key) : Block :=
  let wk := whiteningKey k
  subCell (roundIndices.foldl (fun t i => roundFn k i t) (s ^^^ wk)) ^^^ wk

/-- MIDORI_ENC (R161). -/
def execMidoriEnc (s : State) : Result := accept (s.setRes (midori s.opa s.key))

end Sys2Proof.Machine
end

