-- ==== Sys2Proof/Machine/Field.lean ====
section
/-! DEFINITION. The 32-bit kernel (spec/41_field.md). -/

namespace Sys2Proof.Machine

/-- Add (R111). -/
def gsuma (a b : FieldElt) : FieldElt := a ^^^ b

/-- Double: shift out bit 31 and reduce by 0x1B when it was set (R112). -/
def gdoble (a : FieldElt) : FieldElt := if a.getLsbD 31 then (a <<< 1) ^^^ 0x0000001B#32 else a <<< 1

/-- Triple (R113). -/
def gtriple (a : FieldElt) : FieldElt := a ^^^ gdoble a

/-- One step of the power sequence: the value returned and the FieldState left (R114). `base` is not read. -/
def goper (i : OperIndex) (_base : FieldElt) (fs : FieldState) : FieldElt × FieldState :=
  match i with
  | .one =>
    let m := gdoble fs.mx2
    (m, { fs with mx2 := m })
  | .two =>
    let t := gtriple fs.mx2
    (t, { fs with mx2x3 := t })
  | .three =>
    let m := gdoble fs.mx2
    let t := gtriple m
    (t, { fs with mx2 := m, mx2x3 := t })
  | .four =>
    let t := gtriple (gtriple fs.mx2)
    (t, { fs with mx2x3x3 := t })

/-- GF_ADD (R115). -/
def execGfAdd (s : State) : Result := accept (s.setRes ((gsuma s.opaField s.opbField).setWidth 64))

/-- GF_DBL (R116). -/
def execGfDbl (s : State) : Result := accept (s.setRes ((gdoble s.opaField).setWidth 64))

/-- GF_TPL (R117). -/
def execGfTpl (s : State) : Result := accept (s.setRes ((gtriple s.opaField).setWidth 64))

/-- GF_OPER (R118): the range check comes before the phase check (60_exceptions.md R202). -/
def execGfOper (i : Arg) (s : State) : Result :=
  match operIndex? i with
  | none => refuse .argRange s
  | some k =>
    if s.phase = .absorb then refuse .msgBusy s
    else
      let r := goper k 0 s.fs
      accept ((s.setFs r.2).setRes (r.1.setWidth 64))

/-- GF_SEED (R119). -/
def execGfSeed (s : State) : Result :=
  if s.phase = .absorb then refuse .msgBusy s else accept (s.setFs (.splat s.opaField))

end Sys2Proof.Machine
end

