-- ==== Sys2Proof/Machine/Mask.lean ====
section
/-! DEFINITION. The mask generator and the G-feedback (spec/45_mask_feedback.md). -/

namespace Sys2Proof.Machine

/-- The middle 32 bits (R170). -/
def maskGen (y : Block) : FieldElt := ((y >>> 16) &&& 0xFFFFFFFF#64).setWidth 32

/-- The G-feedback (R171). -/
def mulGY (y : Block) : Block := (y <<< 16) ||| (y.extractLsb' 48 16 ^^^ y.extractLsb' 0 16).setWidth 64

/-- MASKGEN (R172). -/
def execMaskgen (s : State) : Result := accept (s.setRes ((maskGen s.opa).setWidth 64))

/-- MULGY (R173). -/
def execMulgy (s : State) : Result := accept (s.setRes (mulGY s.opa))

end Sys2Proof.Machine
end

