-- ==== Sys2Proof/Machine/Cofb.lean ====
section
/-! DEFINITION. The COFB mode driver (spec/46_cofb.md). -/

namespace Sys2Proof.Machine

/-- `msgInit(d)` (R181). -/
def msgInit (d : Direction) (s : State) : State :=
  let y0 := midori s.nonce s.key
  s.beginMessage d y0 (maskGen y0)

/-- COFB_INIT_ENC (R182). -/
def execCofbInitEnc (s : State) : Result := accept (msgInit .encrypt s)

/-- COFB_INIT_DEC (R183). -/
def execCofbInitDec (s : State) : Result := accept (msgInit .decrypt s)

/-- The BGY of a block: a payload block in decrypt direction adds the chaining value once more (R184). -/
def blockBGY (s : State) : Block :=
  let gy := mulGY s.y
  if 2 < s.exp ∧ s.dir = .decrypt then s.y ^^^ (s.din ^^^ gy) else s.din ^^^ gy

/-- What a block does to DOUT and DOUT_VALID: only a payload block has an output (R184, R185). -/
def blockOutput (s : State) : State := if 2 < s.exp then s.setOutput (s.y ^^^ s.din) else s.noOutput

/-- COFB_BLOCK's pseudocode at sequence index `i` = EXP (R184). Every operand is taken from `s`. -/
def absorbBlock (i : OperIndex) (s : State) : State :=
  let r := goper i s.beta s.fs
  let x := (r.1.setWidth 64 <<< 32) ^^^ blockBGY s
  (((blockOutput s).setFs r.2).setY (midori x s.key)).setExp (s.exp + 1)

/-- COFB_BLOCK (R184): SEQ_ERROR outside ABSORB (60_exceptions.md R202). -/
def execCofbBlock (s : State) : Result :=
  match absorbIndex? s.exp with
  | none => refuse .seqError s
  | some i => accept (absorbBlock i s)

/-- COFB_ABORT (R190). -/
def execCofbAbort (s : State) : Result := accept s.clearMessage

end Sys2Proof.Machine
end

