-- ==== Sys2Proof/Machine/System.lean ====
section
/-! DEFINITION. The system commands (spec/47_system.md). -/

namespace Sys2Proof.Machine

/-- NOP (R195). -/
def execNop (s : State) : Result := accept s

/-- SRESET (R196). -/
def execSreset (s : State) : Result := accept s.resetRegisters

end Sys2Proof.Machine
end

