-- ==== Sys2Proof/Machine/Dispatch.lean ====
section
/-! DEFINITION. One arm per command: `perform` of spec/30_encoding.md R77, with the checks each command's rule names. -/

namespace Sys2Proof.Machine

/-- The effect of a command (30_encoding.md R77). -/
def exec (i : Instr) (s : State) : Host.Outcome State Fault Refusal :=
  match i with
  | .nop => Sys2Proof.Machine.execNop s
  | .sreset => Sys2Proof.Machine.execSreset s
  | .nibRd p => Sys2Proof.Machine.execNibRd p s
  | .nibWr p => Sys2Proof.Machine.execNibWr p s
  | .gfAdd => Sys2Proof.Machine.execGfAdd s
  | .gfDbl => Sys2Proof.Machine.execGfDbl s
  | .gfTpl => Sys2Proof.Machine.execGfTpl s
  | .gfOper k => Sys2Proof.Machine.execGfOper k s
  | .gfSeed => Sys2Proof.Machine.execGfSeed s
  | .subcell => Sys2Proof.Machine.execSubcell s
  | .shuffle => Sys2Proof.Machine.execShuffle s
  | .shuffleInv => Sys2Proof.Machine.execShuffleInv s
  | .mixcol => Sys2Proof.Machine.execMixcol s
  | .keyadd => Sys2Proof.Machine.execKeyadd s
  | .round k => Sys2Proof.Machine.execRound k s
  | .ksWk => Sys2Proof.Machine.execKsWk s
  | .ksRk k => Sys2Proof.Machine.execKsRk k s
  | .midoriEnc => Sys2Proof.Machine.execMidoriEnc s
  | .maskgen => Sys2Proof.Machine.execMaskgen s
  | .mulgy => Sys2Proof.Machine.execMulgy s
  | .cofbInitEnc => Sys2Proof.Machine.execCofbInitEnc s
  | .cofbInitDec => Sys2Proof.Machine.execCofbInitDec s
  | .cofbBlock => Sys2Proof.Machine.execCofbBlock s
  | .cofbAbort => Sys2Proof.Machine.execCofbAbort s

end Sys2Proof.Machine
end

