-- ==== Sys2Proof/Machine/Bus.lean ====
section
/-! DEFINITION. The host's accesses to the register window (spec/20_memory.md R50 to R58) and the reset input
(spec/70_reset_and_hazards.md R230): what one event does. -/

namespace Sys2Proof.Machine

/-- The registers in the order of their offsets 0x00, 0x08, ..., 0x78 (10_state.md R20). -/
def registerMap : Vector Register 16 :=
  #v[.KEY0, .KEY1, .NONCE, .DIN, .OPA, .OPB, .RES, .DOUT,
     .Y, .BETA, .FS_MX2, .FS_MX2X3, .FS_MX2X3X3, .ID, .STATUS, .CMD]

/-- The register at byte offset `o`: number `o >> 3` (20_memory.md R50). -/
def registerAt (o : Fin 128) : Register := registerMap[o.val / 8]

/-- `o = addr - BASE` when the address lies in the window (20_memory.md R50). -/
def State.windowOffset? (s : State) (addr : Nat) : Option (Fin 128) :=
  if h : s.base ≤ addr ∧ addr - s.base < 128 then some ⟨addr - s.base, h.2⟩ else none

/-- Whether an access has the one size and alignment the engine takes (20_memory.md R55). -/
def accessOk (o : Fin 128) (n : Nat) : Bool := decide (n = 8 ∧ o.val % 8 = 0)

/-- `dispatch(w)` (30_encoding.md R77). -/
def dispatch (w : Word) (s : State) : Result :=
  match decode w with
  | .error c => refuse c s
  | .ok i => exec i s

/-- `MemRead` inside the window (20_memory.md R53): a refused read returns 0 and records BAD_ACCESS. -/
def memRead (o : Fin 128) (n : Nat) (s : State) : Result :=
  if accessOk o n then .next (s.returnData (s.readRegister (registerAt o)))
  else .next ((s.raiseError .badAccess).returnData 0)

/-- A write to a key or nonce register's field, refused while a message is absorbed (10_state.md R21). -/
def lockedWrite (s s' : State) : Result := if s.phase = .absorb then refuse .locked s else .next s'

/-- `MemWrite` of 8 bytes to a register (20_memory.md R54). -/
def writeRegister (r : Register) (v : Word) (s : State) : Result :=
  match r with
  | .KEY0 => lockedWrite s { s with key0 := v }
  | .KEY1 => lockedWrite s { s with key1 := v }
  | .NONCE => lockedWrite s { s with nonce := v }
  | .DIN => .next { s with din := v }
  | .OPA => .next { s with opa := v }
  | .OPB => .next { s with opb := v }
  | .RES | .DOUT | .Y | .BETA | .FS_MX2 | .FS_MX2X3 | .FS_MX2X3X3 | .ID => refuse .readOnly s
  | .STATUS => .next (if v.getLsbD 7 then { s with err := false } else s)
  | .CMD => dispatch v s

/-- `MemWrite` inside the window (20_memory.md R54). -/
def memWrite (o : Fin 128) (n : Nat) (v : Word) (s : State) : Result :=
  if accessOk o n then writeRegister (registerAt o) v s else refuse .badAccess s

/-- While the reset input is asserted every register holds its reset value (70_reset_and_hazards.md R230; log entry 6). -/
def State.holdReset (s : State) : State := if s.resetAsserted then s.resetRegisters else s

/-- The outcome of an access, with the registers held at reset while the reset input is asserted. -/
def held : Result → Result
  | .next s => .next s.holdReset
  | .fault f => .fault f
  | .refused r => .refused r

/-- An access to an address that selects the offset `o?`: the engine performs `access` at an offset of its window. It
decodes no address outside the window, so nothing of its state changes there, and no read of its own returns a value
(20_memory.md R50, 93_implementation_defined.md U27; log entry 4). -/
def decoded (o? : Option (Fin 128)) (access : Fin 128 → State → Result) (s : State) : Result :=
  match o? with
  | none => .next s
  | some o => access o s

/-- What one event does. -/
def perform (e : BusEvent) (s : State) : Result :=
  match e with
  | .read addr n => held (decoded (s.windowOffset? addr) (fun o => memRead o n) s)
  | .write addr n v => held (decoded (s.windowOffset? addr) (fun o => memWrite o n v) s)
  | .resetAssert => .next { s.resetRegisters with resetAsserted := true }
  | .resetRelease => .next { s.resetRegisters with resetAsserted := false }

/-- The engine performs the oldest event the host has issued; with none it holds its state (00_scope.md R11,
20_memory.md R58, 60_exceptions.md R215; log entry 5). -/
def serveNext (s : State) : Result :=
  match s.pending with
  | [] => .next s
  | e :: rest => perform e (s.setPending rest)

/-- The address of CMD (10_state.md R20). -/
def State.cmdAddr (s : State) : Nat := s.base + 0x78

/-- The state with a command word about to be written to CMD: what a host does to have a command performed (30_encoding.md
R78). It is the first pending event, and the reset input is not asserted. -/
def State.issueCommand (s : State) (w : Word) : State :=
  { s with pending := .write s.cmdAddr 8 w :: s.pending, resetAsserted := false }

end Sys2Proof.Machine
end

