-- ==== Sys2Proof/Machine/Step.lean ====
section
/-! DEFINITION. One step: the engine performs one access of its host (spec/00_scope.md R11). -/

namespace Sys2Proof.Machine

/-- One step of the machine (00_scope.md R11, 20_memory.md R58). -/
def step (s : State) : Host.Outcome State Fault Refusal := serveNext s

/-- The state whose next step performs the command word made of the `nbits` low bits of `w`: it is the next access to
be performed, an 8-byte write to CMD (log entry 1). -/
def State.withFetchWord (s : State) (nbits w : Nat) : State := s.issueCommand (BitVec.ofNat 64 (w % 2 ^ nbits))

end Sys2Proof.Machine
end

