-- ==== Sys2Proof/Safety.lean ====
section
/-! DEFINITION. The terms the statements use: what an issued event is, the invariants of the machine, and one message run
command by command. -/

namespace Sys2Proof.Machine

/-- The host issues `e` as the next event, with the reset input released: the state whose next step performs `e`. -/
def State.issue (s : State) (e : BusEvent) : State := { s with pending := e :: s.pending, resetAsserted := false }

/-- What the rules of 46_cofb.md and 10_state.md keep true of the message state between host accesses. -/
structure MessageInv (s : State) : Prop where
  /-- DOUT_VALID is set exactly at DONE (R34). -/
  validAtDone : s.doutValid = true ↔ s.exp = 4
  /-- With no output, DOUT is 0 (R26). -/
  noOutput : s.doutValid = false → s.dout = 0
  /-- With no message, Y and BETA are 0 (R190, R230). -/
  idleClear : s.exp = 0 → s.y = 0 ∧ s.beta = 0
  /-- While a message is absorbed, BETA is the mask of the locked key and nonce (R21, R28). -/
  maskOfNonce : s.phase = .absorb → s.beta = maskGen (midori s.nonce s.key)
  /-- Before the first block (R181). -/
  beforeFirst : s.exp = 1 → s.y = midori s.nonce s.key ∧ s.fs = .splat s.beta
  /-- Before the second block (R114, R184). -/
  beforeSecond : s.exp = 2 → s.fs = { mx2 := gdoble s.beta, mx2x3 := s.beta, mx2x3x3 := s.beta }
  /-- Before the third block (R114, R184). -/
  beforeThird : s.exp = 3 →
    s.fs = { mx2 := gdoble s.beta, mx2x3 := gtriple (gdoble s.beta), mx2x3x3 := s.beta }

/-- While the reset input is asserted every register holds its reset value (70_reset_and_hazards.md R230). -/
def ResetInv (s : State) : Prop := s.resetAsserted = true → s.resetRegisters = s

/-- A command of a message: `none` where it stops or is refused. -/
def acceptedCommand (i : Instr) (s : State) : Option State :=
  match exec i s with
  | .next t => if t.lastErr = .ok then some t else none
  | .fault _ => none
  | .refused _ => none

/-- The host writes DIN and issues COFB_BLOCK (46_cofb.md R184). -/
def messageBlock (b : Block) (s : State) : Option State := acceptedCommand .cofbBlock { s with din := b }

/-- One whole message: an INIT command, then the blocks `a1`, `a2` and `b` (46_cofb.md R180). -/
def message (init : Instr) (a1 a2 b : Block) (s : State) : Option State := do
  let s0 ← acceptedCommand init s
  let s1 ← messageBlock a1 s0
  let s2 ← messageBlock a2 s1
  messageBlock b s2

end Sys2Proof.Machine
end

