-- ==== Sys2Proof/Certificates/Slice0/Obligations.lean ====
section
/-! DEFINITION. The statements for the provers. The first part writes the spec's functions a second time, from the tables
and equations of spec/ and apart from the machine's own, so that the statements do not merely unfold the model. -/

namespace Sys2Proof.Ref

open Sys2Proof Sys2Proof.Machine

/-- A block as its sixteen nibbles. -/
abbrev Cells := Fin 16 → Nibble

/-- Nibble `p` of a block is bits `63-4p : 60-4p` (00_scope.md R7). -/
def cells (b : Block) : Cells := fun p => b.extractLsb' (60 - 4 * p.val) 4

/-- The unpacked S-box (42_round.md R130). -/
def sboxTable : List Nibble :=
  [0xC, 0xA, 0xD, 0x3, 0xE, 0xB, 0xF, 0x7, 0x8, 0x9, 0x1, 0x5, 0x0, 0x2, 0x4, 0x6]

/-- The unpacked forward permutation: source positions (42_round.md R131). -/
def shuffleTable : List (Fin 16) := [0, 10, 5, 15, 14, 4, 11, 1, 9, 3, 12, 6, 7, 13, 2, 8]

/-- The unpacked inverse permutation (42_round.md R131). -/
def shuffleInvTable : List (Fin 16) := [0, 7, 14, 9, 5, 2, 11, 12, 15, 8, 1, 6, 10, 13, 4, 3]

/-- The round constants (43_keyschedule.md R150). -/
def constantTable : List Nat :=
  [0x15B3, 0x78C0, 0xA435, 0x6213, 0x104F, 0xD170, 0x0266, 0x0BCC,
   0x9481, 0x40B8, 0x7197, 0x228E, 0x5130, 0xF8CA, 0xDF90, 0x7C81]

/-- The S-box of one nibble. -/
def sbox (v : Nibble) : Nibble := sboxTable.getD v.toNat 0

/-- SubCell, cell by cell (42_round.md R133). -/
def subCell (c : Cells) : Cells := fun p => sbox (c p)

/-- ShuffleCell with a table of sources: whole nibbles move (42_round.md R133). -/
def shuffle (t : List (Fin 16)) (c : Cells) : Cells := fun p => c (t.getD p.val 0)

/-- The position `d` places further in the column of `p` (42_round.md R132). -/
def columnMate (p : Fin 16) (d : Nat) : Fin 16 := ⟨4 * (p.val / 4) + (p.val + d) % 4, by omega⟩

/-- MixColumn: each output nibble is the XOR of the other three nibbles of its column (42_round.md R132). -/
def mixColumn (c : Cells) : Cells := fun p => c (columnMate p 1) ^^^ c (columnMate p 2) ^^^ c (columnMate p 3)

/-- The XOR of two blocks, cell by cell. -/
def xor (a b : Cells) : Cells := fun p => a p ^^^ b p

/-- Round key `i`: nibble `j` of K0 or K1 with bit `15 - j` of the constant added to its low bit (43_keyschedule.md
R152). -/
def roundKey (k0 k1 : Block) (i : Nat) : Cells := fun j =>
  cells (if i % 2 = 0 then k0 else k1) j ^^^ (if (constantTable.getD i 0).testBit (15 - j.val) then 1 else 0)

/-- One full round (42_round.md R134). -/
def round (k0 k1 : Block) (i : Nat) (c : Cells) : Cells :=
  xor (mixColumn (shuffle shuffleTable (subCell c))) (roundKey k0 k1 i)

/-- The state after the first `n` rounds, from the whitened block (44_cipher.md R160). -/
def rounds (k0 k1 : Block) (c : Cells) : Nat → Cells
  | 0 => xor c (cells (k0 ^^^ k1))
  | n + 1 => round k0 k1 n (rounds k0 k1 c n)

/-- The cipher: 15 full rounds, a last SubCell, the final whitening (44_cipher.md R160). -/
def midori (k0 k1 : Block) (c : Cells) : Cells := xor (subCell (rounds k0 k1 c 15)) (cells (k0 ^^^ k1))

/-- Doubling as arithmetic on numbers (41_field.md R112). -/
def double (a : FieldElt) : FieldElt :=
  if a.toNat < 2 ^ 31 then BitVec.ofNat 32 (2 * a.toNat) else BitVec.ofNat 32 (2 * a.toNat - 2 ^ 32) ^^^ 0x1B

/-- Tripling (41_field.md R113). -/
def triple (a : FieldElt) : FieldElt := a ^^^ double a

/-- The power sequence at index `i` in 1..4 (41_field.md R114). -/
def operStep (i : Nat) (fs : FieldState) : FieldElt × FieldState :=
  if i = 1 then (double fs.mx2, { fs with mx2 := double fs.mx2 })
  else if i = 2 then (triple fs.mx2, { fs with mx2x3 := triple fs.mx2 })
  else if i = 3 then
    (triple (double fs.mx2), { fs with mx2 := double fs.mx2, mx2x3 := triple (double fs.mx2) })
  else (triple (triple fs.mx2), { fs with mx2x3x3 := triple (triple fs.mx2) })

/-- `Y[47:0] ∥ (Y[63:48] ^ Y[15:0])` (45_mask_feedback.md R171). -/
def feedback (y : Block) : Block := y.extractLsb' 0 48 ++ (y.extractLsb' 48 16 ^^^ y.extractLsb' 0 16)

/-- The fields of a command word (30_encoding.md R71). -/
def opc (w : Word) : Nat := w.toNat % 256

/-- ARG (R71). -/
def arg (w : Word) : Nat := w.toNat / 256 % 256

/-- RSVD (R71). -/
def rsvd (w : Word) : Nat := w.toNat / 65536

/-- Words with this opcode are the command `i` when bits 63:8 are 0, and RESERVED_BITS otherwise (30_encoding.md R74). -/
def plainEncoding (o : Nat) (i : Instr) : Prop :=
  ∀ w : Word, opc w = o → decode w = if w.toNat / 256 = 0 then .ok i else .error .reservedBits

/-- Words with this opcode are the command `mk ARG` for ARG in `lo..hi` (30_encoding.md R74). -/
def argEncoding (o lo hi : Nat) (mk : Arg → Instr) : Prop :=
  ∀ w : Word, opc w = o →
    decode w =
      if rsvd w ≠ 0 then .error .reservedBits
      else if lo ≤ arg w ∧ arg w ≤ hi then .ok (mk (BitVec.ofNat 8 (arg w)))
      else .error .argRange

/-- The unassigned opcodes, as R74 lists them. -/
def unassigned (o : Nat) : Bool :=
  (0x02 ≤ o && o ≤ 0x0F) || (0x12 ≤ o && o ≤ 0x1F) || (0x25 ≤ o && o ≤ 0x2F) || (0x36 ≤ o && o ≤ 0x3F)
    || (0x43 ≤ o && o ≤ 0x4F) || (0x52 ≤ o && o ≤ 0x5F) || (0x64 ≤ o && o ≤ 0xFF)

/-- The opcodes of the commands with an argument (R73). -/
def takesArg (o : Nat) : Bool := o == 0x10 || o == 0x11 || o == 0x23 || o == 0x35 || o == 0x41

/-- The legal arguments (R74). -/
def legalArg (o a : Nat) : Bool :=
  if o = 0x10 ∨ o = 0x11 then a ≤ 15 else if o = 0x23 then 1 ≤ a && a ≤ 4 else a ≤ 14

/-- PHASE as a number (10_state.md R31, R32). -/
def phaseNumber (e : Fin 5) : Nat := if e.val = 0 then 0 else if e.val ≤ 3 then 1 else 2

/-- LAST_ERR as a number (60_exceptions.md R200). -/
def errorNumber : ErrorCode → Nat
  | .ok => 0
  | .illegalOpcode => 1
  | .reservedBits => 2
  | .argRange => 3
  | .seqError => 4
  | .msgBusy => 5
  | .locked => 6
  | .badAccess => 7
  | .readOnly => 8

/-- STATUS as a number (10_state.md R31). -/
def statusNumber (s : State) : Nat :=
  s.exp.val + 8 * phaseNumber s.exp + 32 * (if s.dir = .decrypt then 1 else 0) + 64 * s.doutValid.toNat
    + 128 * s.err.toNat + 256 * errorNumber s.lastErr

/-- What an accepted read of register number `k` returns (20_memory.md R53). -/
def readValue (s : State) (k : Nat) : Word :=
  [s.key0, s.key1, s.nonce, s.din, s.opa, s.opb, s.res, s.dout, s.y, 0#32 ++ s.beta, 0#32 ++ s.fs.mx2,
   0#32 ++ s.fs.mx2x3, 0#32 ++ s.fs.mx2x3x3, 0x434F46424D363401, BitVec.ofNat 64 (statusNumber s), 0].getD k 0

/-- The code `dispatch` refuses a word with, in the order of 60_exceptions.md R202. -/
def wordRefusal (s : State) (w : Word) : Option ErrorCode :=
  if unassigned (opc w) then some .illegalOpcode
  else if rsvd w ≠ 0 ∨ (¬ takesArg (opc w) ∧ arg w ≠ 0) then some .reservedBits
  else if takesArg (opc w) ∧ ¬ legalArg (opc w) (arg w) then some .argRange
  else if opc w = 0x62 ∧ phaseNumber s.exp ≠ 1 then some .seqError
  else if (opc w = 0x23 ∨ opc w = 0x24) ∧ phaseNumber s.exp = 1 then some .msgBusy
  else none

/-- The code a write of `n` bytes at offset `o` is refused with, in the order of 60_exceptions.md R202. -/
def writeRefusal (s : State) (o n : Nat) (v : Word) : Option ErrorCode :=
  if n ≠ 8 ∨ o % 8 ≠ 0 then some .badAccess
  else if o = 0x78 then wordRefusal s v
  else if 0x30 ≤ o ∧ o ≤ 0x68 then some .readOnly
  else if o ≤ 0x10 ∧ phaseNumber s.exp = 1 then some .locked
  else none

/-- The counter after a command (46_cofb.md R180, R188). -/
def counterAfter (i : Instr) (e : Nat) : Nat :=
  if i = .cofbInitEnc ∨ i = .cofbInitDec then 1
  else if i = .cofbAbort ∨ i = .sreset then 0
  else if i = .cofbBlock ∧ 1 ≤ e ∧ e ≤ 3 then e + 1
  else e

/-- The direction after a command (10_state.md R34). -/
def directionAfter (i : Instr) (d : Direction) : Direction :=
  if i = .cofbInitDec then .decrypt else if i = .cofbInitEnc ∨ i = .sreset then .encrypt else d

/-- The three ways ERR is cleared (60_exceptions.md R205): a STATUS write with bit 7, SRESET, the reset input. -/
def clearsErr (s : State) (e : BusEvent) : Prop :=
  (∃ v : Word, e = .write (128 * s.window + 0x70) 8 v ∧ v.getLsbD 7 = true)
    ∨ e = .write (128 * s.window + 0x78) 8 0x01
    ∨ e = .resetAssert ∨ e = .resetRelease

end Sys2Proof.Ref

open Sys2Proof Sys2Proof.Machine

/-! Command words (30_encoding.md). -/

/-- A word decodes to a command exactly when the command is well formed and the word is its encoding (30_encoding.md
sections 1 and 2). -/
def Obligations.DecodeAndEncodeAgree : Prop :=
  ∀ (w : Word) (i : Instr), decode w = .ok i ↔ (i.wellFormed = true ∧ encode i = w)

/-- Some words, written from the opcode table and from the examples of 30_encoding.md R78. -/
def Obligations.TableWordsDecode : Prop :=
  decodeTableWord 64 0x0000000000000000 = some .nop ∧
  decodeTableWord 64 0x0000000000000510 = some (.nibRd 5) ∧
  decodeTableWord 64 0x0000000000000423 = some (.gfOper 4) ∧
  decodeTableWord 64 0x0000000000000E35 = some (.round 14) ∧
  decodeTableWord 64 0x0000000000000042 = some .midoriEnc ∧
  decodeTableWord 64 0x0000000000000062 = some .cofbBlock ∧
  decodeTableWord 64 0x0000000000010062 = none

/-- R74: the three checks in their order; a refused word leaves only the error record; every other word is a command. -/
def Obligations.CommandWordsCheckedInOrder : Prop :=
  ∀ (w : Word) (s : State),
    if Ref.unassigned (Ref.opc w) then
      dispatch w s = .next { s with lastErr := .illegalOpcode, err := true }
    else if Ref.rsvd w ≠ 0 ∨ (¬ Ref.takesArg (Ref.opc w) ∧ Ref.arg w ≠ 0) then
      dispatch w s = .next { s with lastErr := .reservedBits, err := true }
    else if Ref.takesArg (Ref.opc w) ∧ ¬ Ref.legalArg (Ref.opc w) (Ref.arg w) then
      dispatch w s = .next { s with lastErr := .argRange, err := true }
    else ∃ i, decode w = .ok i ∧ dispatch w s = exec i s

/-! The step (00_scope.md R11, 30_encoding.md R77). -/

/-- A step whose next access writes a word to CMD is `exec` of the command the word decodes to. -/
def Obligations.StepPerformsDecodedCommand : Prop :=
  ∀ (s : State) (w : Word) (i : Instr), decode w = .ok i →
    step (s.issue (.write (128 * s.window + 0x78) 8 w)) = exec i { s with resetAsserted := false }

/-- A step whose next access writes a word that does not decode records its code and changes nothing else. -/
def Obligations.StepRecordsRefusedWord : Prop :=
  ∀ (s : State) (w : Word) (c : ErrorCode), decode w = .error c →
    step (s.issue (.write (128 * s.window + 0x78) 8 w))
      = .next { s with resetAsserted := false, lastErr := c, err := true }

/-- What `withFetchWord` places is the word the next step performs. -/
def Obligations.StepRunsPlacedWord : Prop :=
  ∀ (s : State) (w : Word), step (s.withFetchWord 64 w.toNat) = dispatch w { s with resetAsserted := false }

/-! The register window (20_memory.md) and reset (70_reset_and_hazards.md). -/

/-- R53: a host read of any size at any offset of the window. -/
def Obligations.HostReadReturnsRegister : Prop :=
  ∀ (s : State) (o : Fin 128) (n : Nat),
    step (s.issue (.read (128 * s.window + o.val) n)) =
      if n ≠ 8 ∨ o.val % 8 ≠ 0 then
        .next { s with resetAsserted := false, lastErr := .badAccess, err := true, readData := s.readData ++ [0] }
      else .next { s with resetAsserted := false, readData := s.readData ++ [Ref.readValue s (o.val / 8)] }

/-- R54: a host write of any size at any offset of the window. -/
def Obligations.HostWriteStoresOrRefuses : Prop :=
  ∀ (s : State) (o : Fin 128) (n : Nat) (v : Word),
    step (s.issue (.write (128 * s.window + o.val) n v)) =
      let r := { s with resetAsserted := false }
      if n ≠ 8 ∨ o.val % 8 ≠ 0 then .next { r with lastErr := .badAccess, err := true }
      else if o.val ≤ 0x10 ∧ Ref.phaseNumber s.exp = 1 then .next { r with lastErr := .locked, err := true }
      else if o.val = 0x00 then .next { r with key0 := v }
      else if o.val = 0x08 then .next { r with key1 := v }
      else if o.val = 0x10 then .next { r with nonce := v }
      else if o.val = 0x18 then .next { r with din := v }
      else if o.val = 0x20 then .next { r with opa := v }
      else if o.val = 0x28 then .next { r with opb := v }
      else if o.val = 0x70 then .next { r with err := s.err && !v.getLsbD 7 }
      else if o.val = 0x78 then dispatch v r
      else .next { r with lastErr := .readOnly, err := true }

/-- R32: PHASE, as a read of STATUS shows it in bits 4:3, is a function of EXP. -/
def Obligations.PhaseFieldFollowsCounter : Prop :=
  ∀ s : State, (s.readRegister .STATUS).extractLsb' 3 2 =
    if s.exp = 0 then 0 else if s.exp = 1 ∨ s.exp = 2 ∨ s.exp = 3 then 1 else 2

/-- The engine decodes no address outside the window (20_memory.md section 1): an access there, of any size and value,
changes no register, and the accesses after it stay to be performed. That no read of the engine returns a value there is
the model's reading (log entry 4), and so is that an access reaches an engine held in reset at all (log entry 6). -/
def Obligations.OutsideWindowLeavesEngine : Prop :=
  ∀ (s : State) (a n : Nat) (v : Word), (a < 128 * s.window ∨ 128 * s.window + 128 ≤ a) →
    step (s.issue (.read a n)) = .next { s with resetAsserted := false } ∧
    step (s.issue (.write a n v)) = .next { s with resetAsserted := false } ∧
    step { s with pending := .read a n :: s.pending, resetAsserted := true }
      = .next { s.resetRegisters with resetAsserted := true } ∧
    step { s with pending := .write a n v :: s.pending, resetAsserted := true }
      = .next { s.resetRegisters with resetAsserted := true }

/-- No input makes the engine stop or hang (93_implementation_defined.md, treatments; 60_exceptions.md section 3): from
every state the next step takes the oldest event, leaves the others in order and the window where it is, and returns at
most one value to the host. -/
def Obligations.StepAlwaysTakesNextEvent : Prop :=
  ∀ s : State, ∃ t, step s = .next t ∧ t.pending = s.pending.tail ∧ t.window = s.window ∧
    (t.readData = s.readData ∨ ∃ v, t.readData = s.readData ++ [v])

/-- R230: when the reset input is asserted, and after it is released, every register holds its reset value; ID is
constant; SRESET leaves the same registers. -/
def Obligations.ResetInputClearsRegisters : Prop :=
  ∀ s : State,
    step (s.issue .resetAssert) = .next { State.reset with
      window := s.window, pending := s.pending, readData := s.readData, resetAsserted := true } ∧
    step (s.issue .resetRelease) = .next { State.reset with
      window := s.window, pending := s.pending, readData := s.readData, resetAsserted := false } ∧
    step { s with pending := .resetRelease :: s.pending, resetAsserted := true } = .next { State.reset with
      window := s.window, pending := s.pending, readData := s.readData, resetAsserted := false } ∧
    s.readRegister .ID = 0x434F46424D363401 ∧
    exec .sreset s = .next { State.reset with
      window := s.window, pending := s.pending, readData := s.readData, resetAsserted := s.resetAsserted } ∧
    (∀ r, State.reset.readRegister r = if r = .ID then 0x434F46424D363401 else 0)

/-- While the reset input stays asserted, every step leaves every register at its reset value (log entry 6). -/
def Obligations.ResetHeldWhileAsserted : Prop :=
  ∀ s t : State, ResetInv s → step s = .next t → ResetInv t

/-! Errors (60_exceptions.md). -/

/-- R202, R203, R204: which code an access records, that a refused access changes nothing but the error record (a
refused read returns 0), and what an accepted one leaves in LAST_ERR. -/
def Obligations.ErrorRecordIsPrecise : Prop :=
  ∀ (s : State) (o : Fin 128) (n : Nat) (v : Word),
    (if n ≠ 8 ∨ o.val % 8 ≠ 0 then
      step (s.issue (.read (128 * s.window + o.val) n)) = .next
        { s with resetAsserted := false, lastErr := .badAccess, err := true, readData := s.readData ++ [0] }
     else ∃ x, step (s.issue (.read (128 * s.window + o.val) n)) = .next
        { s with resetAsserted := false, readData := s.readData ++ [x] }) ∧
    (match Ref.writeRefusal s o.val n v with
     | some c => step (s.issue (.write (128 * s.window + o.val) n v)) =
        .next { s with resetAsserted := false, lastErr := c, err := true }
     | none => ∃ t, step (s.issue (.write (128 * s.window + o.val) n v)) = .next t ∧
        t.lastErr = if o.val = 0x78 then .ok else s.lastErr)

/-- R205: a set ERR is cleared by exactly the three things the rule names. -/
def Obligations.ErrClearedOnlyByThree : Prop :=
  ∀ (s t : State) (e : BusEvent), s.err = true → step (s.issue e) = .next t →
    (t.err = false ↔ Ref.clearsErr s e)

/-- The error record an event leaves depends on the event, on EXP and on the record before it, and on no data register
(60_exceptions.md section 1). -/
def Obligations.ErrorsIgnoreData : Prop :=
  ∀ (s s' t t' : State) (e : BusEvent), s.window = s'.window → s.exp = s'.exp → s.err = s'.err →
    s.lastErr = s'.lastErr → step (s.issue e) = .next t → step (s'.issue e) = .next t' →
    t.err = t'.err ∧ t.lastErr = t'.lastErr

/-! System commands (47_system.md). -/

/-- R195. -/
def Obligations.NopOnlyClearsLastErr : Prop :=
  Ref.plainEncoding 0x00 .nop ∧ ∀ s : State, exec .nop s = .next { s with lastErr := .ok }

/-- R196. -/
def Obligations.SresetGivesResetState : Prop :=
  Ref.plainEncoding 0x01 .sreset ∧
  ∀ s : State, exec .sreset s = .next { State.reset with
    window := s.window, pending := s.pending, readData := s.readData, resetAsserted := s.resetAsserted }

/-! Nibble primitives (40_nibble.md). -/

/-- R102. -/
def Obligations.NibRdReadsNibble : Prop :=
  Ref.argEncoding 0x10 0 15 .nibRd ∧
  ∀ (s : State) (p : Arg), exec (.nibRd p) s =
    if p.toNat ≤ 15 then .next { s with res := 0#60 ++ s.opa.extractLsb' (60 - 4 * p.toNat) 4, lastErr := .ok }
    else .next { s with lastErr := .argRange, err := true }

/-- R103: the new block has OPB[3:0] at position `p` and OPA's nibbles everywhere else. -/
def Obligations.NibWrReplacesNibble : Prop :=
  Ref.argEncoding 0x11 0 15 .nibWr ∧
  ∀ (s : State) (p : Arg),
    if p.toNat ≤ 15 then
      ∃ v : Word, exec (.nibWr p) s = .next { s with res := v, lastErr := .ok } ∧
        ∀ q : Fin 16, Ref.cells v q = if q.val = p.toNat then s.opb.extractLsb' 0 4 else Ref.cells s.opa q
    else exec (.nibWr p) s = .next { s with lastErr := .argRange, err := true }

/-- R104: the three laws of the nibble functions. -/
def Obligations.NibbleRoundTrips : Prop :=
  ∀ (b : Block) (p q : Fin 16) (v : Nibble),
    nib (setnib b p v) p = v ∧ setnib b p (nib b p) = b ∧ (q ≠ p → nib (setnib b p v) q = nib b q)

/-! The 32-bit kernel (41_field.md). -/

/-- R115. -/
def Obligations.GfAddIsXor : Prop :=
  Ref.plainEncoding 0x20 .gfAdd ∧
  ∀ s : State, exec .gfAdd s =
    .next { s with res := 0#32 ++ (s.opa.extractLsb' 0 32 ^^^ s.opb.extractLsb' 0 32), lastErr := .ok }

/-- R116. -/
def Obligations.GfDblShiftsAndReduces : Prop :=
  Ref.plainEncoding 0x21 .gfDbl ∧
  ∀ s : State, exec .gfDbl s = .next { s with res := 0#32 ++ Ref.double (s.opa.extractLsb' 0 32), lastErr := .ok }

/-- R117. -/
def Obligations.GfTplAddsTheDouble : Prop :=
  Ref.plainEncoding 0x22 .gfTpl ∧
  ∀ s : State, exec .gfTpl s = .next { s with res := 0#32 ++ Ref.triple (s.opa.extractLsb' 0 32), lastErr := .ok }

/-- R118: the range check, then the phase check, then one step of the sequence. -/
def Obligations.GfOperStepsTheSequence : Prop :=
  Ref.argEncoding 0x23 1 4 .gfOper ∧
  ∀ (s : State) (i : Arg), exec (.gfOper i) s =
    if i.toNat = 0 ∨ 5 ≤ i.toNat then .next { s with lastErr := .argRange, err := true }
    else if 1 ≤ s.exp ∧ s.exp ≤ 3 then .next { s with lastErr := .msgBusy, err := true }
    else .next { s with
      fs := (Ref.operStep i.toNat s.fs).2, res := 0#32 ++ (Ref.operStep i.toNat s.fs).1, lastErr := .ok }

/-- R119. -/
def Obligations.GfSeedLoadsFieldState : Prop :=
  Ref.plainEncoding 0x24 .gfSeed ∧
  ∀ s : State, exec .gfSeed s =
    if 1 ≤ s.exp ∧ s.exp ≤ 3 then .next { s with lastErr := .msgBusy, err := true }
    else .next { s with
      fs := { mx2 := s.opa.extractLsb' 0 32, mx2x3 := s.opa.extractLsb' 0 32, mx2x3x3 := s.opa.extractLsb' 0 32 },
      lastErr := .ok }

/-- The laws of the kernel (41_field.md section 3): doubling is linear, doubling and tripling are bijections, and the
sequence maps a nonzero word to a nonzero result. -/
def Obligations.KernelLaws : Prop :=
  (∀ a b : FieldElt, gdoble (a ^^^ b) = gdoble a ^^^ gdoble b) ∧
  Function.Bijective gdoble ∧ Function.Bijective gtriple ∧
  (∀ (k : OperIndex) (b : FieldElt) (fs : FieldState), fs.mx2 ≠ 0 → (goper k b fs).1 ≠ 0)

/-- No command but GF_OPER, GF_SEED, the INITs, COFB_BLOCK, COFB_ABORT and SRESET writes the FieldState, and the first two
do not while a message is absorbed (10_state.md section 4). -/
def Obligations.FieldStateWriters : Prop :=
  ∀ (i : Instr) (s t : State), exec i s = .next t → t.fs ≠ s.fs →
    ((∃ k, i = .gfOper k) ∨ i = .gfSeed) ∧ (s.exp = 0 ∨ s.exp = 4)
      ∨ i = .cofbInitEnc ∨ i = .cofbInitDec ∨ i = .cofbBlock ∨ i = .cofbAbort ∨ i = .sreset

/-! Round primitives (42_round.md). -/

/-- R135. -/
def Obligations.SubcellAppliesSbox : Prop :=
  Ref.plainEncoding 0x30 .subcell ∧
  ∀ s : State, ∃ v : Word, exec .subcell s = .next { s with res := v, lastErr := .ok } ∧
    Ref.cells v = Ref.subCell (Ref.cells s.opa)

/-- R136. -/
def Obligations.ShuffleMovesNibbles : Prop :=
  Ref.plainEncoding 0x31 .shuffle ∧
  ∀ s : State, ∃ v : Word, exec .shuffle s = .next { s with res := v, lastErr := .ok } ∧
    Ref.cells v = Ref.shuffle Ref.shuffleTable (Ref.cells s.opa)

/-- R137. -/
def Obligations.ShuffleInvMovesNibbles : Prop :=
  Ref.plainEncoding 0x32 .shuffleInv ∧
  ∀ s : State, ∃ v : Word, exec .shuffleInv s = .next { s with res := v, lastErr := .ok } ∧
    Ref.cells v = Ref.shuffle Ref.shuffleInvTable (Ref.cells s.opa)

/-- R138. -/
def Obligations.MixcolXorsColumns : Prop :=
  Ref.plainEncoding 0x33 .mixcol ∧
  ∀ s : State, ∃ v : Word, exec .mixcol s = .next { s with res := v, lastErr := .ok } ∧
    Ref.cells v = Ref.mixColumn (Ref.cells s.opa)

/-- R139. -/
def Obligations.KeyaddXorsOperands : Prop :=
  Ref.plainEncoding 0x34 .keyadd ∧
  ∀ s : State, exec .keyadd s = .next { s with res := s.opa ^^^ s.opb, lastErr := .ok }

/-- R140. -/
def Obligations.RoundComposesPrimitives : Prop :=
  Ref.argEncoding 0x35 0 14 .round ∧
  ∀ (s : State) (i : Arg),
    if i.toNat ≤ 14 then
      ∃ v : Word, exec (.round i) s = .next { s with res := v, lastErr := .ok } ∧
        Ref.cells v = Ref.round s.key0 s.key1 i.toNat (Ref.cells s.opa)
    else exec (.round i) s = .next { s with lastErr := .argRange, err := true }

/-- The laws of the round primitives (42_round.md section 4): SubCell and MixColumn undo themselves, the two shuffles
undo each other. -/
def Obligations.RoundPrimitiveLaws : Prop :=
  ∀ s : Block, Machine.subCell (Machine.subCell s) = s ∧ Machine.mixColumn (Machine.mixColumn s) = s ∧
    shuffleCell (shuffleCell s false) true = s ∧ shuffleCell (shuffleCell s true) false = s

/-! Key schedule and cipher (43_keyschedule.md, 44_cipher.md). -/

/-- R153. -/
def Obligations.KsWkXorsKeyHalves : Prop :=
  Ref.plainEncoding 0x40 .ksWk ∧
  ∀ s : State, exec .ksWk s = .next { s with res := s.key0 ^^^ s.key1, lastErr := .ok }

/-- R154. -/
def Obligations.KsRkGivesRoundKey : Prop :=
  Ref.argEncoding 0x41 0 14 .ksRk ∧
  ∀ (s : State) (i : Arg),
    if i.toNat ≤ 14 then
      ∃ v : Word, exec (.ksRk i) s = .next { s with res := v, lastErr := .ok } ∧
        Ref.cells v = Ref.roundKey s.key0 s.key1 i.toNat
    else exec (.ksRk i) s = .next { s with lastErr := .argRange, err := true }

/-- R161. -/
def Obligations.MidoriEncRunsCipher : Prop :=
  Ref.plainEncoding 0x42 .midoriEnc ∧
  ∀ s : State, ∃ v : Word, exec .midoriEnc s = .next { s with res := v, lastErr := .ok } ∧
    Ref.cells v = Ref.midori s.key0 s.key1 (Ref.cells s.opa)

/-- R160: the packed cipher computes, cell by cell, the cipher written on the unpacked tables. -/
def Obligations.CipherRefinesUnpackedTables : Prop :=
  ∀ (s : Block) (k : Key), Ref.cells (Machine.midori s k) = Ref.midori k.k0 k.k1 (Ref.cells s)

/-! Mask generator and feedback (45_mask_feedback.md). -/

/-- R172. -/
def Obligations.MaskgenTakesMiddleBits : Prop :=
  Ref.plainEncoding 0x50 .maskgen ∧
  ∀ s : State, exec .maskgen s = .next { s with res := 0#32 ++ s.opa.extractLsb' 16 32, lastErr := .ok }

/-- R173. -/
def Obligations.MulgyFoldsTopBits : Prop :=
  Ref.plainEncoding 0x51 .mulgy ∧
  ∀ s : State, exec .mulgy s = .next { s with res := Ref.feedback s.opa, lastErr := .ok }

/-- The feedback is a rotation by 16 with the old low bits added, and a bijection (45_mask_feedback.md section 1). -/
def Obligations.FeedbackIsBijective : Prop :=
  (∀ y : Block, mulGY y = y.rotateLeft 16 ^^^ (0#48 ++ y.extractLsb' 0 16)) ∧ Function.Bijective mulGY

/-! The mode (46_cofb.md). -/

/-- R182. -/
def Obligations.InitEncStartsMessage : Prop :=
  Ref.plainEncoding 0x60 .cofbInitEnc ∧
  ∀ s : State, ∃ y0 : Block, Ref.cells y0 = Ref.midori s.key0 s.key1 (Ref.cells s.nonce) ∧
    exec .cofbInitEnc s = .next { s with
      y := y0, beta := y0.extractLsb' 16 32,
      fs := { mx2 := y0.extractLsb' 16 32, mx2x3 := y0.extractLsb' 16 32, mx2x3x3 := y0.extractLsb' 16 32 },
      exp := 1, dir := .encrypt, dout := 0, doutValid := false, lastErr := .ok }

/-- R183. -/
def Obligations.InitDecStartsMessage : Prop :=
  Ref.plainEncoding 0x61 .cofbInitDec ∧
  ∀ s : State, ∃ y0 : Block, Ref.cells y0 = Ref.midori s.key0 s.key1 (Ref.cells s.nonce) ∧
    exec .cofbInitDec s = .next { s with
      y := y0, beta := y0.extractLsb' 16 32,
      fs := { mx2 := y0.extractLsb' 16 32, mx2x3 := y0.extractLsb' 16 32, mx2x3x3 := y0.extractLsb' 16 32 },
      exp := 1, dir := .decrypt, dout := 0, doutValid := false, lastErr := .ok }

/-- R184: every field a block writes, for each phase, position and direction. -/
def Obligations.BlockAbsorbsDin : Prop :=
  Ref.plainEncoding 0x62 .cofbBlock ∧
  ∀ s : State,
    if s.exp = 0 ∨ s.exp = 4 then exec .cofbBlock s = .next { s with lastErr := .seqError, err := true }
    else
      ∃ y1 : Block,
        Ref.cells y1 = Ref.midori s.key0 s.key1 (Ref.cells
          (((Ref.operStep s.exp.val s.fs).1 ++ 0#32) ^^^ Ref.feedback s.y
            ^^^ (if s.exp = 3 ∧ s.dir = .decrypt then s.y ^^^ s.din else s.din))) ∧
        exec .cofbBlock s = .next { s with
          y := y1, fs := (Ref.operStep s.exp.val s.fs).2, exp := s.exp + 1,
          dout := if s.exp = 3 then s.y ^^^ s.din else s.dout,
          doutValid := decide (s.exp = 3), lastErr := .ok }

/-- R190. -/
def Obligations.AbortClearsMessage : Prop :=
  Ref.plainEncoding 0x63 .cofbAbort ∧
  ∀ s : State, exec .cofbAbort s = .next { s with
    y := 0, beta := 0, fs := { mx2 := 0, mx2x3 := 0, mx2x3x3 := 0 }, dout := 0, doutValid := false, exp := 0,
    lastErr := .ok }

/-- R180, R188: what EXP and DIR are after every command, that a fourth block is refused, and that neither a register access nor a refused
word moves the counter. -/
def Obligations.CounterPolicy : Prop :=
  (∀ (i : Instr) (s : State), ∃ t, exec i s = .next t ∧ t.exp.val = Ref.counterAfter i s.exp.val
    ∧ t.dir = Ref.directionAfter i s.dir) ∧
  (∀ s : State, (s.exp = 0 ∨ s.exp = 4) → exec .cofbBlock s = .next { s with lastErr := .seqError, err := true }) ∧
  (∀ (s t : State) (e : BusEvent), e ≠ .resetAssert → e ≠ .resetRelease →
    (∀ v, e ≠ .write (128 * s.window + 0x78) 8 v) → step (s.issue e) = .next t → t.exp = s.exp) ∧
  (∀ (s : State) (w : Word) (c : ErrorCode), decode w = .error c → ∃ t, dispatch w s = .next t ∧ t.exp = s.exp)

/-- While a message is absorbed, no event but SRESET and the reset input changes the key or the nonce (10_state.md
section 2). -/
def Obligations.KeyAndNonceLocked : Prop :=
  ∀ (s t : State) (e : BusEvent), 1 ≤ s.exp → s.exp ≤ 3 → e ≠ .resetAssert → e ≠ .resetRelease →
    e ≠ .write (128 * s.window + 0x78) 8 0x01 → step (s.issue e) = .next t →
    t.key0 = s.key0 ∧ t.key1 = s.key1 ∧ t.nonce = s.nonce

/-- The state `State.reset` meets both invariants. -/
def Obligations.ResetMeetsInvariants : Prop := MessageInv State.reset ∧ ResetInv State.reset

/-- Every step keeps the message invariant, from every state that has it, reset asserted or not. -/
def Obligations.StepKeepsMessageState : Prop :=
  ∀ s t : State, MessageInv s → step s = .next t → MessageInv t

/-- The three masks of a message, stepping from the FieldState (β, β, β) that INIT leaves: the double of β, the triple of
that double, and the triple of the double of the double (46_cofb.md section 4). -/
def Obligations.MasksOfMessage : Prop :=
  ∀ b : FieldElt,
    let f1 := (goper .one b (FieldState.splat b)).2
    let f2 := (goper .two b f1).2
    (goper .one b (FieldState.splat b)).1 = Ref.double b ∧
    (goper .two b f1).1 = Ref.triple (Ref.double b) ∧
    (goper .three b f2).1 = Ref.triple (Ref.double (Ref.double b))

/-- Decrypting what was encrypted, under the same key and nonce, gives the plaintext and the same tag (46_cofb.md section
4). The two engines may differ in everything else. -/
def Obligations.DecryptUndoesEncrypt : Prop :=
  ∀ (s s' : State) (a1 a2 b : Block), s.key0 = s'.key0 → s.key1 = s'.key1 → s.nonce = s'.nonce →
    ∃ t t', message .cofbInitEnc a1 a2 b s = some t ∧ message .cofbInitDec a1 a2 t.dout s' = some t' ∧
      t.exp = 4 ∧ t'.exp = 4 ∧ t'.dout = b ∧ t'.y = t.y

/-- A message's outputs depend only on the key, the nonce and the three blocks (46_cofb.md section 4). -/
def Obligations.MessageForgetsThePast : Prop :=
  ∀ (s s' : State) (init : Instr) (a1 a2 b : Block), init = .cofbInitEnc ∨ init = .cofbInitDec →
    s.key0 = s'.key0 → s.key1 = s'.key1 → s.nonce = s'.nonce →
    ∃ t t', message init a1 a2 b s = some t ∧ message init a1 a2 b s' = some t' ∧
      t.dout = t'.dout ∧ t.y = t'.y ∧ t.beta = t'.beta ∧ t.fs = t'.fs ∧ t.exp = t'.exp ∧ t.doutValid = t'.doutValid

/-- A decrypt payload block and the encrypt payload block of the plaintext it recovers leave the same chaining value and
the same FieldState (46_cofb.md section 3). -/
def Obligations.PayloadDirectionsAgree : Prop :=
  ∀ (s : State) (c : Block), s.exp = 3 →
    ∃ t t', exec .cofbBlock { s with dir := .decrypt, din := c } = .next t ∧
      exec .cofbBlock { s with dir := .encrypt, din := t.dout } = .next t' ∧
      t.dout = s.y ^^^ c ∧ t'.dout = c ∧ t'.y = t.y ∧ t'.fs = t.fs
end

