-- ==== Sys2Proof/Laws/Nibble.lean ====
section
/-! SUPPORT. The block-building loop, nibble by nibble (spec/40_nibble.md, spec/42_round.md R132). -/

namespace Sys2Proof.Machine

/-- Bit `k` of nibble `p` is bit `60 - 4p + k` of the block (00_scope.md R7). -/
theorem nib_getLsbD (b : Block) (p : Fin 16) (k : Nat) (hk : k < 4) :
    (nib b p).getLsbD k = b.getLsbD (4 * (15 - p.val) + k) := by
  have h : (0xF#64).getLsbD k = true := by interval_cases k <;> rfl
  simp only [nib, BitVec.getLsbD_setWidth, BitVec.getLsbD_and, BitVec.getLsbD_ushiftRight, h, hk]
  simp

/-- Each bit after a nibble write: from the new nibble inside position `p`, unchanged outside it. -/
theorem setnib_getLsbD (b : Block) (p : Fin 16) (v : Nibble) (k : Nat) (hk : k < 64) :
    (setnib b p v).getLsbD k =
      if k / 4 = 15 - p.val then v.getLsbD (k - 4 * (15 - p.val)) else b.getLsbD k := by
  have hF : ∀ j, (0xF#64).getLsbD j = decide (j < 4) := by
    intro j
    rcases Nat.lt_or_ge j 64 with h | h
    · interval_cases j <;> rfl
    · rw [BitVec.getLsbD_of_ge _ _ h]; simp; omega
  simp only [setnib, BitVec.getLsbD_or, BitVec.getLsbD_and, BitVec.getLsbD_not, BitVec.getLsbD_shiftLeft,
    BitVec.getLsbD_setWidth, hF, hk]
  rcases Nat.lt_trichotomy (k / 4) (15 - p.val) with h | h | h
  · have : k < 4 * (15 - p.val) := by omega
    simp [this, Nat.ne_of_lt h]
  · have h1 : ¬ k < 4 * (15 - p.val) := by omega
    have h2 : k - 4 * (15 - p.val) < 4 := by omega
    simp [h, h1, h2]; omega
  · have h1 : ¬ k < 4 * (15 - p.val) := by omega
    have h2 : 4 ≤ k - 4 * (15 - p.val) := by omega
    simp [Nat.ne_of_gt h, h1, h2]

/-- The loop leaves bit `k` of the nibble function's value at its position, whichever order it writes in. -/
theorem buildBlock_getLsbD (f : Fin 16 → Nibble) (k : Nat) (hk : k < 64) :
    (buildBlock f).getLsbD k = (f ⟨15 - k / 4, by omega⟩).getLsbD (k % 4) := by
  simp only [buildBlock, nibblePositions, List.foldl, setnib_getLsbD _ _ _ _ hk]
  obtain ⟨q, hq⟩ : ∃ q, k / 4 = q := ⟨_, rfl⟩
  have hq16 : q < 16 := by omega
  have hp : (⟨15 - k / 4, by omega⟩ : Fin 16) = ⟨15 - q, by omega⟩ := Fin.ext (by simp only; omega)
  rw [hp, hq, show k % 4 = k - 4 * q by omega]
  interval_cases q <;> simp

/-- Nibble `p` of a built block is what the loop computed for it. -/
theorem nib_buildBlock (f : Fin 16 → Nibble) (p : Fin 16) : nib (buildBlock f) p = f p := by
  ext k hk
  rw [← BitVec.getLsbD_eq_getElem, nib_getLsbD _ _ _ hk, buildBlock_getLsbD _ _ (by omega),
    ← BitVec.getLsbD_eq_getElem]
  have hp : (⟨15 - (4 * (15 - p.val) + k) / 4, by omega⟩ : Fin 16) = p := Fin.ext (by simp only; omega)
  rw [hp, show (4 * (15 - p.val) + k) % 4 = k by omega]

/-- Blocks with the same nibbles are equal. -/
theorem eq_of_nib_eq {a b : Block} (h : ∀ p, nib a p = nib b p) : a = b := by
  ext k hk
  have h1 := congrArg (fun v : Nibble => v.getLsbD (k % 4)) (h ⟨15 - k / 4, by omega⟩)
  simp only [nib_getLsbD _ _ _ (show k % 4 < 4 by omega)] at h1
  rw [show 4 * (15 - (15 - k / 4)) + k % 4 = k by omega] at h1
  rw [← BitVec.getLsbD_eq_getElem, ← BitVec.getLsbD_eq_getElem]
  exact h1

end Sys2Proof.Machine
end

