-- ==== Sys2Proof/Laws/State.lean ====
section
/-! SUPPORT. What each state update does to each field, so that no proof unfolds a record update. -/

namespace Sys2Proof.Machine

section raiseError
variable (s : State) (c : ErrorCode)

@[simp] theorem State.raiseError_key0 : (s.raiseError c).key0 = s.key0 := rfl
@[simp] theorem State.raiseError_key1 : (s.raiseError c).key1 = s.key1 := rfl
@[simp] theorem State.raiseError_nonce : (s.raiseError c).nonce = s.nonce := rfl
@[simp] theorem State.raiseError_din : (s.raiseError c).din = s.din := rfl
@[simp] theorem State.raiseError_opa : (s.raiseError c).opa = s.opa := rfl
@[simp] theorem State.raiseError_opb : (s.raiseError c).opb = s.opb := rfl
@[simp] theorem State.raiseError_res : (s.raiseError c).res = s.res := rfl
@[simp] theorem State.raiseError_dout : (s.raiseError c).dout = s.dout := rfl
@[simp] theorem State.raiseError_y : (s.raiseError c).y = s.y := rfl
@[simp] theorem State.raiseError_beta : (s.raiseError c).beta = s.beta := rfl
@[simp] theorem State.raiseError_fs : (s.raiseError c).fs = s.fs := rfl
@[simp] theorem State.raiseError_exp : (s.raiseError c).exp = s.exp := rfl
@[simp] theorem State.raiseError_dir : (s.raiseError c).dir = s.dir := rfl
@[simp] theorem State.raiseError_doutValid : (s.raiseError c).doutValid = s.doutValid := rfl
@[simp] theorem State.raiseError_err : (s.raiseError c).err = true := rfl
@[simp] theorem State.raiseError_lastErr : (s.raiseError c).lastErr = c := rfl
@[simp] theorem State.raiseError_window : (s.raiseError c).window = s.window := rfl
@[simp] theorem State.raiseError_resetAsserted : (s.raiseError c).resetAsserted = s.resetAsserted := rfl
@[simp] theorem State.raiseError_pending : (s.raiseError c).pending = s.pending := rfl
@[simp] theorem State.raiseError_readData : (s.raiseError c).readData = s.readData := rfl

end raiseError

section recordOk
variable (s : State)

@[simp] theorem State.recordOk_key0 : (s.recordOk).key0 = s.key0 := rfl
@[simp] theorem State.recordOk_key1 : (s.recordOk).key1 = s.key1 := rfl
@[simp] theorem State.recordOk_nonce : (s.recordOk).nonce = s.nonce := rfl
@[simp] theorem State.recordOk_din : (s.recordOk).din = s.din := rfl
@[simp] theorem State.recordOk_opa : (s.recordOk).opa = s.opa := rfl
@[simp] theorem State.recordOk_opb : (s.recordOk).opb = s.opb := rfl
@[simp] theorem State.recordOk_res : (s.recordOk).res = s.res := rfl
@[simp] theorem State.recordOk_dout : (s.recordOk).dout = s.dout := rfl
@[simp] theorem State.recordOk_y : (s.recordOk).y = s.y := rfl
@[simp] theorem State.recordOk_beta : (s.recordOk).beta = s.beta := rfl
@[simp] theorem State.recordOk_fs : (s.recordOk).fs = s.fs := rfl
@[simp] theorem State.recordOk_exp : (s.recordOk).exp = s.exp := rfl
@[simp] theorem State.recordOk_dir : (s.recordOk).dir = s.dir := rfl
@[simp] theorem State.recordOk_doutValid : (s.recordOk).doutValid = s.doutValid := rfl
@[simp] theorem State.recordOk_err : (s.recordOk).err = s.err := rfl
@[simp] theorem State.recordOk_lastErr : (s.recordOk).lastErr = .ok := rfl
@[simp] theorem State.recordOk_window : (s.recordOk).window = s.window := rfl
@[simp] theorem State.recordOk_resetAsserted : (s.recordOk).resetAsserted = s.resetAsserted := rfl
@[simp] theorem State.recordOk_pending : (s.recordOk).pending = s.pending := rfl
@[simp] theorem State.recordOk_readData : (s.recordOk).readData = s.readData := rfl

end recordOk

section setRes
variable (s : State) (v : Word)

@[simp] theorem State.setRes_key0 : (s.setRes v).key0 = s.key0 := rfl
@[simp] theorem State.setRes_key1 : (s.setRes v).key1 = s.key1 := rfl
@[simp] theorem State.setRes_nonce : (s.setRes v).nonce = s.nonce := rfl
@[simp] theorem State.setRes_din : (s.setRes v).din = s.din := rfl
@[simp] theorem State.setRes_opa : (s.setRes v).opa = s.opa := rfl
@[simp] theorem State.setRes_opb : (s.setRes v).opb = s.opb := rfl
@[simp] theorem State.setRes_res : (s.setRes v).res = v := rfl
@[simp] theorem State.setRes_dout : (s.setRes v).dout = s.dout := rfl
@[simp] theorem State.setRes_y : (s.setRes v).y = s.y := rfl
@[simp] theorem State.setRes_beta : (s.setRes v).beta = s.beta := rfl
@[simp] theorem State.setRes_fs : (s.setRes v).fs = s.fs := rfl
@[simp] theorem State.setRes_exp : (s.setRes v).exp = s.exp := rfl
@[simp] theorem State.setRes_dir : (s.setRes v).dir = s.dir := rfl
@[simp] theorem State.setRes_doutValid : (s.setRes v).doutValid = s.doutValid := rfl
@[simp] theorem State.setRes_err : (s.setRes v).err = s.err := rfl
@[simp] theorem State.setRes_lastErr : (s.setRes v).lastErr = s.lastErr := rfl
@[simp] theorem State.setRes_window : (s.setRes v).window = s.window := rfl
@[simp] theorem State.setRes_resetAsserted : (s.setRes v).resetAsserted = s.resetAsserted := rfl
@[simp] theorem State.setRes_pending : (s.setRes v).pending = s.pending := rfl
@[simp] theorem State.setRes_readData : (s.setRes v).readData = s.readData := rfl

end setRes

section setFs
variable (s : State) (f : FieldState)

@[simp] theorem State.setFs_key0 : (s.setFs f).key0 = s.key0 := rfl
@[simp] theorem State.setFs_key1 : (s.setFs f).key1 = s.key1 := rfl
@[simp] theorem State.setFs_nonce : (s.setFs f).nonce = s.nonce := rfl
@[simp] theorem State.setFs_din : (s.setFs f).din = s.din := rfl
@[simp] theorem State.setFs_opa : (s.setFs f).opa = s.opa := rfl
@[simp] theorem State.setFs_opb : (s.setFs f).opb = s.opb := rfl
@[simp] theorem State.setFs_res : (s.setFs f).res = s.res := rfl
@[simp] theorem State.setFs_dout : (s.setFs f).dout = s.dout := rfl
@[simp] theorem State.setFs_y : (s.setFs f).y = s.y := rfl
@[simp] theorem State.setFs_beta : (s.setFs f).beta = s.beta := rfl
@[simp] theorem State.setFs_fs : (s.setFs f).fs = f := rfl
@[simp] theorem State.setFs_exp : (s.setFs f).exp = s.exp := rfl
@[simp] theorem State.setFs_dir : (s.setFs f).dir = s.dir := rfl
@[simp] theorem State.setFs_doutValid : (s.setFs f).doutValid = s.doutValid := rfl
@[simp] theorem State.setFs_err : (s.setFs f).err = s.err := rfl
@[simp] theorem State.setFs_lastErr : (s.setFs f).lastErr = s.lastErr := rfl
@[simp] theorem State.setFs_window : (s.setFs f).window = s.window := rfl
@[simp] theorem State.setFs_resetAsserted : (s.setFs f).resetAsserted = s.resetAsserted := rfl
@[simp] theorem State.setFs_pending : (s.setFs f).pending = s.pending := rfl
@[simp] theorem State.setFs_readData : (s.setFs f).readData = s.readData := rfl

end setFs

section setY
variable (s : State) (v : Word)

@[simp] theorem State.setY_key0 : (s.setY v).key0 = s.key0 := rfl
@[simp] theorem State.setY_key1 : (s.setY v).key1 = s.key1 := rfl
@[simp] theorem State.setY_nonce : (s.setY v).nonce = s.nonce := rfl
@[simp] theorem State.setY_din : (s.setY v).din = s.din := rfl
@[simp] theorem State.setY_opa : (s.setY v).opa = s.opa := rfl
@[simp] theorem State.setY_opb : (s.setY v).opb = s.opb := rfl
@[simp] theorem State.setY_res : (s.setY v).res = s.res := rfl
@[simp] theorem State.setY_dout : (s.setY v).dout = s.dout := rfl
@[simp] theorem State.setY_y : (s.setY v).y = v := rfl
@[simp] theorem State.setY_beta : (s.setY v).beta = s.beta := rfl
@[simp] theorem State.setY_fs : (s.setY v).fs = s.fs := rfl
@[simp] theorem State.setY_exp : (s.setY v).exp = s.exp := rfl
@[simp] theorem State.setY_dir : (s.setY v).dir = s.dir := rfl
@[simp] theorem State.setY_doutValid : (s.setY v).doutValid = s.doutValid := rfl
@[simp] theorem State.setY_err : (s.setY v).err = s.err := rfl
@[simp] theorem State.setY_lastErr : (s.setY v).lastErr = s.lastErr := rfl
@[simp] theorem State.setY_window : (s.setY v).window = s.window := rfl
@[simp] theorem State.setY_resetAsserted : (s.setY v).resetAsserted = s.resetAsserted := rfl
@[simp] theorem State.setY_pending : (s.setY v).pending = s.pending := rfl
@[simp] theorem State.setY_readData : (s.setY v).readData = s.readData := rfl

end setY

section setOutput
variable (s : State) (v : Word)

@[simp] theorem State.setOutput_key0 : (s.setOutput v).key0 = s.key0 := rfl
@[simp] theorem State.setOutput_key1 : (s.setOutput v).key1 = s.key1 := rfl
@[simp] theorem State.setOutput_nonce : (s.setOutput v).nonce = s.nonce := rfl
@[simp] theorem State.setOutput_din : (s.setOutput v).din = s.din := rfl
@[simp] theorem State.setOutput_opa : (s.setOutput v).opa = s.opa := rfl
@[simp] theorem State.setOutput_opb : (s.setOutput v).opb = s.opb := rfl
@[simp] theorem State.setOutput_res : (s.setOutput v).res = s.res := rfl
@[simp] theorem State.setOutput_dout : (s.setOutput v).dout = v := rfl
@[simp] theorem State.setOutput_y : (s.setOutput v).y = s.y := rfl
@[simp] theorem State.setOutput_beta : (s.setOutput v).beta = s.beta := rfl
@[simp] theorem State.setOutput_fs : (s.setOutput v).fs = s.fs := rfl
@[simp] theorem State.setOutput_exp : (s.setOutput v).exp = s.exp := rfl
@[simp] theorem State.setOutput_dir : (s.setOutput v).dir = s.dir := rfl
@[simp] theorem State.setOutput_doutValid : (s.setOutput v).doutValid = true := rfl
@[simp] theorem State.setOutput_err : (s.setOutput v).err = s.err := rfl
@[simp] theorem State.setOutput_lastErr : (s.setOutput v).lastErr = s.lastErr := rfl
@[simp] theorem State.setOutput_window : (s.setOutput v).window = s.window := rfl
@[simp] theorem State.setOutput_resetAsserted : (s.setOutput v).resetAsserted = s.resetAsserted := rfl
@[simp] theorem State.setOutput_pending : (s.setOutput v).pending = s.pending := rfl
@[simp] theorem State.setOutput_readData : (s.setOutput v).readData = s.readData := rfl

end setOutput

section noOutput
variable (s : State)

@[simp] theorem State.noOutput_key0 : (s.noOutput).key0 = s.key0 := rfl
@[simp] theorem State.noOutput_key1 : (s.noOutput).key1 = s.key1 := rfl
@[simp] theorem State.noOutput_nonce : (s.noOutput).nonce = s.nonce := rfl
@[simp] theorem State.noOutput_din : (s.noOutput).din = s.din := rfl
@[simp] theorem State.noOutput_opa : (s.noOutput).opa = s.opa := rfl
@[simp] theorem State.noOutput_opb : (s.noOutput).opb = s.opb := rfl
@[simp] theorem State.noOutput_res : (s.noOutput).res = s.res := rfl
@[simp] theorem State.noOutput_dout : (s.noOutput).dout = s.dout := rfl
@[simp] theorem State.noOutput_y : (s.noOutput).y = s.y := rfl
@[simp] theorem State.noOutput_beta : (s.noOutput).beta = s.beta := rfl
@[simp] theorem State.noOutput_fs : (s.noOutput).fs = s.fs := rfl
@[simp] theorem State.noOutput_exp : (s.noOutput).exp = s.exp := rfl
@[simp] theorem State.noOutput_dir : (s.noOutput).dir = s.dir := rfl
@[simp] theorem State.noOutput_doutValid : (s.noOutput).doutValid = false := rfl
@[simp] theorem State.noOutput_err : (s.noOutput).err = s.err := rfl
@[simp] theorem State.noOutput_lastErr : (s.noOutput).lastErr = s.lastErr := rfl
@[simp] theorem State.noOutput_window : (s.noOutput).window = s.window := rfl
@[simp] theorem State.noOutput_resetAsserted : (s.noOutput).resetAsserted = s.resetAsserted := rfl
@[simp] theorem State.noOutput_pending : (s.noOutput).pending = s.pending := rfl
@[simp] theorem State.noOutput_readData : (s.noOutput).readData = s.readData := rfl

end noOutput

section setExp
variable (s : State) (e : Fin 5)

@[simp] theorem State.setExp_key0 : (s.setExp e).key0 = s.key0 := rfl
@[simp] theorem State.setExp_key1 : (s.setExp e).key1 = s.key1 := rfl
@[simp] theorem State.setExp_nonce : (s.setExp e).nonce = s.nonce := rfl
@[simp] theorem State.setExp_din : (s.setExp e).din = s.din := rfl
@[simp] theorem State.setExp_opa : (s.setExp e).opa = s.opa := rfl
@[simp] theorem State.setExp_opb : (s.setExp e).opb = s.opb := rfl
@[simp] theorem State.setExp_res : (s.setExp e).res = s.res := rfl
@[simp] theorem State.setExp_dout : (s.setExp e).dout = s.dout := rfl
@[simp] theorem State.setExp_y : (s.setExp e).y = s.y := rfl
@[simp] theorem State.setExp_beta : (s.setExp e).beta = s.beta := rfl
@[simp] theorem State.setExp_fs : (s.setExp e).fs = s.fs := rfl
@[simp] theorem State.setExp_exp : (s.setExp e).exp = e := rfl
@[simp] theorem State.setExp_dir : (s.setExp e).dir = s.dir := rfl
@[simp] theorem State.setExp_doutValid : (s.setExp e).doutValid = s.doutValid := rfl
@[simp] theorem State.setExp_err : (s.setExp e).err = s.err := rfl
@[simp] theorem State.setExp_lastErr : (s.setExp e).lastErr = s.lastErr := rfl
@[simp] theorem State.setExp_window : (s.setExp e).window = s.window := rfl
@[simp] theorem State.setExp_resetAsserted : (s.setExp e).resetAsserted = s.resetAsserted := rfl
@[simp] theorem State.setExp_pending : (s.setExp e).pending = s.pending := rfl
@[simp] theorem State.setExp_readData : (s.setExp e).readData = s.readData := rfl

end setExp

section beginMessage
variable (s : State) (d : Direction) (y0 : Block) (b : FieldElt)

@[simp] theorem State.beginMessage_key0 : (s.beginMessage d y0 b).key0 = s.key0 := rfl
@[simp] theorem State.beginMessage_key1 : (s.beginMessage d y0 b).key1 = s.key1 := rfl
@[simp] theorem State.beginMessage_nonce : (s.beginMessage d y0 b).nonce = s.nonce := rfl
@[simp] theorem State.beginMessage_din : (s.beginMessage d y0 b).din = s.din := rfl
@[simp] theorem State.beginMessage_opa : (s.beginMessage d y0 b).opa = s.opa := rfl
@[simp] theorem State.beginMessage_opb : (s.beginMessage d y0 b).opb = s.opb := rfl
@[simp] theorem State.beginMessage_res : (s.beginMessage d y0 b).res = s.res := rfl
@[simp] theorem State.beginMessage_dout : (s.beginMessage d y0 b).dout = 0 := rfl
@[simp] theorem State.beginMessage_y : (s.beginMessage d y0 b).y = y0 := rfl
@[simp] theorem State.beginMessage_beta : (s.beginMessage d y0 b).beta = b := rfl
@[simp] theorem State.beginMessage_fs : (s.beginMessage d y0 b).fs = .splat b := rfl
@[simp] theorem State.beginMessage_exp : (s.beginMessage d y0 b).exp = 1 := rfl
@[simp] theorem State.beginMessage_dir : (s.beginMessage d y0 b).dir = d := rfl
@[simp] theorem State.beginMessage_doutValid : (s.beginMessage d y0 b).doutValid = false := rfl
@[simp] theorem State.beginMessage_err : (s.beginMessage d y0 b).err = s.err := rfl
@[simp] theorem State.beginMessage_lastErr : (s.beginMessage d y0 b).lastErr = s.lastErr := rfl
@[simp] theorem State.beginMessage_window : (s.beginMessage d y0 b).window = s.window := rfl
@[simp] theorem State.beginMessage_resetAsserted : (s.beginMessage d y0 b).resetAsserted = s.resetAsserted := rfl
@[simp] theorem State.beginMessage_pending : (s.beginMessage d y0 b).pending = s.pending := rfl
@[simp] theorem State.beginMessage_readData : (s.beginMessage d y0 b).readData = s.readData := rfl

end beginMessage

section clearMessage
variable (s : State)

@[simp] theorem State.clearMessage_key0 : (s.clearMessage).key0 = s.key0 := rfl
@[simp] theorem State.clearMessage_key1 : (s.clearMessage).key1 = s.key1 := rfl
@[simp] theorem State.clearMessage_nonce : (s.clearMessage).nonce = s.nonce := rfl
@[simp] theorem State.clearMessage_din : (s.clearMessage).din = s.din := rfl
@[simp] theorem State.clearMessage_opa : (s.clearMessage).opa = s.opa := rfl
@[simp] theorem State.clearMessage_opb : (s.clearMessage).opb = s.opb := rfl
@[simp] theorem State.clearMessage_res : (s.clearMessage).res = s.res := rfl
@[simp] theorem State.clearMessage_dout : (s.clearMessage).dout = 0 := rfl
@[simp] theorem State.clearMessage_y : (s.clearMessage).y = 0 := rfl
@[simp] theorem State.clearMessage_beta : (s.clearMessage).beta = 0 := rfl
@[simp] theorem State.clearMessage_fs : (s.clearMessage).fs = .splat 0 := rfl
@[simp] theorem State.clearMessage_exp : (s.clearMessage).exp = 0 := rfl
@[simp] theorem State.clearMessage_dir : (s.clearMessage).dir = s.dir := rfl
@[simp] theorem State.clearMessage_doutValid : (s.clearMessage).doutValid = false := rfl
@[simp] theorem State.clearMessage_err : (s.clearMessage).err = s.err := rfl
@[simp] theorem State.clearMessage_lastErr : (s.clearMessage).lastErr = s.lastErr := rfl
@[simp] theorem State.clearMessage_window : (s.clearMessage).window = s.window := rfl
@[simp] theorem State.clearMessage_resetAsserted : (s.clearMessage).resetAsserted = s.resetAsserted := rfl
@[simp] theorem State.clearMessage_pending : (s.clearMessage).pending = s.pending := rfl
@[simp] theorem State.clearMessage_readData : (s.clearMessage).readData = s.readData := rfl

end clearMessage

section resetRegisters
variable (s : State)

@[simp] theorem State.resetRegisters_key0 : (s.resetRegisters).key0 = 0 := rfl
@[simp] theorem State.resetRegisters_key1 : (s.resetRegisters).key1 = 0 := rfl
@[simp] theorem State.resetRegisters_nonce : (s.resetRegisters).nonce = 0 := rfl
@[simp] theorem State.resetRegisters_din : (s.resetRegisters).din = 0 := rfl
@[simp] theorem State.resetRegisters_opa : (s.resetRegisters).opa = 0 := rfl
@[simp] theorem State.resetRegisters_opb : (s.resetRegisters).opb = 0 := rfl
@[simp] theorem State.resetRegisters_res : (s.resetRegisters).res = 0 := rfl
@[simp] theorem State.resetRegisters_dout : (s.resetRegisters).dout = 0 := rfl
@[simp] theorem State.resetRegisters_y : (s.resetRegisters).y = 0 := rfl
@[simp] theorem State.resetRegisters_beta : (s.resetRegisters).beta = 0 := rfl
@[simp] theorem State.resetRegisters_fs : (s.resetRegisters).fs = .splat 0 := rfl
@[simp] theorem State.resetRegisters_exp : (s.resetRegisters).exp = 0 := rfl
@[simp] theorem State.resetRegisters_dir : (s.resetRegisters).dir = .encrypt := rfl
@[simp] theorem State.resetRegisters_doutValid : (s.resetRegisters).doutValid = false := rfl
@[simp] theorem State.resetRegisters_err : (s.resetRegisters).err = false := rfl
@[simp] theorem State.resetRegisters_lastErr : (s.resetRegisters).lastErr = .ok := rfl
@[simp] theorem State.resetRegisters_window : (s.resetRegisters).window = s.window := rfl
@[simp] theorem State.resetRegisters_resetAsserted : (s.resetRegisters).resetAsserted = s.resetAsserted := rfl
@[simp] theorem State.resetRegisters_pending : (s.resetRegisters).pending = s.pending := rfl
@[simp] theorem State.resetRegisters_readData : (s.resetRegisters).readData = s.readData := rfl

end resetRegisters

section setPending
variable (s : State) (es : List BusEvent)

@[simp] theorem State.setPending_key0 : (s.setPending es).key0 = s.key0 := rfl
@[simp] theorem State.setPending_key1 : (s.setPending es).key1 = s.key1 := rfl
@[simp] theorem State.setPending_nonce : (s.setPending es).nonce = s.nonce := rfl
@[simp] theorem State.setPending_din : (s.setPending es).din = s.din := rfl
@[simp] theorem State.setPending_opa : (s.setPending es).opa = s.opa := rfl
@[simp] theorem State.setPending_opb : (s.setPending es).opb = s.opb := rfl
@[simp] theorem State.setPending_res : (s.setPending es).res = s.res := rfl
@[simp] theorem State.setPending_dout : (s.setPending es).dout = s.dout := rfl
@[simp] theorem State.setPending_y : (s.setPending es).y = s.y := rfl
@[simp] theorem State.setPending_beta : (s.setPending es).beta = s.beta := rfl
@[simp] theorem State.setPending_fs : (s.setPending es).fs = s.fs := rfl
@[simp] theorem State.setPending_exp : (s.setPending es).exp = s.exp := rfl
@[simp] theorem State.setPending_dir : (s.setPending es).dir = s.dir := rfl
@[simp] theorem State.setPending_doutValid : (s.setPending es).doutValid = s.doutValid := rfl
@[simp] theorem State.setPending_err : (s.setPending es).err = s.err := rfl
@[simp] theorem State.setPending_lastErr : (s.setPending es).lastErr = s.lastErr := rfl
@[simp] theorem State.setPending_window : (s.setPending es).window = s.window := rfl
@[simp] theorem State.setPending_resetAsserted : (s.setPending es).resetAsserted = s.resetAsserted := rfl
@[simp] theorem State.setPending_pending : (s.setPending es).pending = es := rfl
@[simp] theorem State.setPending_readData : (s.setPending es).readData = s.readData := rfl

end setPending

section returnData
variable (s : State) (v : Word)

@[simp] theorem State.returnData_key0 : (s.returnData v).key0 = s.key0 := rfl
@[simp] theorem State.returnData_key1 : (s.returnData v).key1 = s.key1 := rfl
@[simp] theorem State.returnData_nonce : (s.returnData v).nonce = s.nonce := rfl
@[simp] theorem State.returnData_din : (s.returnData v).din = s.din := rfl
@[simp] theorem State.returnData_opa : (s.returnData v).opa = s.opa := rfl
@[simp] theorem State.returnData_opb : (s.returnData v).opb = s.opb := rfl
@[simp] theorem State.returnData_res : (s.returnData v).res = s.res := rfl
@[simp] theorem State.returnData_dout : (s.returnData v).dout = s.dout := rfl
@[simp] theorem State.returnData_y : (s.returnData v).y = s.y := rfl
@[simp] theorem State.returnData_beta : (s.returnData v).beta = s.beta := rfl
@[simp] theorem State.returnData_fs : (s.returnData v).fs = s.fs := rfl
@[simp] theorem State.returnData_exp : (s.returnData v).exp = s.exp := rfl
@[simp] theorem State.returnData_dir : (s.returnData v).dir = s.dir := rfl
@[simp] theorem State.returnData_doutValid : (s.returnData v).doutValid = s.doutValid := rfl
@[simp] theorem State.returnData_err : (s.returnData v).err = s.err := rfl
@[simp] theorem State.returnData_lastErr : (s.returnData v).lastErr = s.lastErr := rfl
@[simp] theorem State.returnData_window : (s.returnData v).window = s.window := rfl
@[simp] theorem State.returnData_resetAsserted : (s.returnData v).resetAsserted = s.resetAsserted := rfl
@[simp] theorem State.returnData_pending : (s.returnData v).pending = s.pending := rfl
@[simp] theorem State.returnData_readData : (s.returnData v).readData = s.readData ++ [v] := rfl

end returnData

section issue
variable (s : State) (e : BusEvent)

@[simp] theorem State.issue_key0 : (s.issue e).key0 = s.key0 := rfl
@[simp] theorem State.issue_key1 : (s.issue e).key1 = s.key1 := rfl
@[simp] theorem State.issue_nonce : (s.issue e).nonce = s.nonce := rfl
@[simp] theorem State.issue_din : (s.issue e).din = s.din := rfl
@[simp] theorem State.issue_opa : (s.issue e).opa = s.opa := rfl
@[simp] theorem State.issue_opb : (s.issue e).opb = s.opb := rfl
@[simp] theorem State.issue_res : (s.issue e).res = s.res := rfl
@[simp] theorem State.issue_dout : (s.issue e).dout = s.dout := rfl
@[simp] theorem State.issue_y : (s.issue e).y = s.y := rfl
@[simp] theorem State.issue_beta : (s.issue e).beta = s.beta := rfl
@[simp] theorem State.issue_fs : (s.issue e).fs = s.fs := rfl
@[simp] theorem State.issue_exp : (s.issue e).exp = s.exp := rfl
@[simp] theorem State.issue_dir : (s.issue e).dir = s.dir := rfl
@[simp] theorem State.issue_doutValid : (s.issue e).doutValid = s.doutValid := rfl
@[simp] theorem State.issue_err : (s.issue e).err = s.err := rfl
@[simp] theorem State.issue_lastErr : (s.issue e).lastErr = s.lastErr := rfl
@[simp] theorem State.issue_window : (s.issue e).window = s.window := rfl
@[simp] theorem State.issue_resetAsserted : (s.issue e).resetAsserted = false := rfl
@[simp] theorem State.issue_pending : (s.issue e).pending = e :: s.pending := rfl
@[simp] theorem State.issue_readData : (s.issue e).readData = s.readData := rfl

end issue

section issueCommand
variable (s : State) (w : Word)

@[simp] theorem State.issueCommand_key0 : (s.issueCommand w).key0 = s.key0 := rfl
@[simp] theorem State.issueCommand_key1 : (s.issueCommand w).key1 = s.key1 := rfl
@[simp] theorem State.issueCommand_nonce : (s.issueCommand w).nonce = s.nonce := rfl
@[simp] theorem State.issueCommand_din : (s.issueCommand w).din = s.din := rfl
@[simp] theorem State.issueCommand_opa : (s.issueCommand w).opa = s.opa := rfl
@[simp] theorem State.issueCommand_opb : (s.issueCommand w).opb = s.opb := rfl
@[simp] theorem State.issueCommand_res : (s.issueCommand w).res = s.res := rfl
@[simp] theorem State.issueCommand_dout : (s.issueCommand w).dout = s.dout := rfl
@[simp] theorem State.issueCommand_y : (s.issueCommand w).y = s.y := rfl
@[simp] theorem State.issueCommand_beta : (s.issueCommand w).beta = s.beta := rfl
@[simp] theorem State.issueCommand_fs : (s.issueCommand w).fs = s.fs := rfl
@[simp] theorem State.issueCommand_exp : (s.issueCommand w).exp = s.exp := rfl
@[simp] theorem State.issueCommand_dir : (s.issueCommand w).dir = s.dir := rfl
@[simp] theorem State.issueCommand_doutValid : (s.issueCommand w).doutValid = s.doutValid := rfl
@[simp] theorem State.issueCommand_err : (s.issueCommand w).err = s.err := rfl
@[simp] theorem State.issueCommand_lastErr : (s.issueCommand w).lastErr = s.lastErr := rfl
@[simp] theorem State.issueCommand_window : (s.issueCommand w).window = s.window := rfl
@[simp] theorem State.issueCommand_resetAsserted : (s.issueCommand w).resetAsserted = false := rfl
@[simp] theorem State.issueCommand_pending : (s.issueCommand w).pending = .write s.cmdAddr 8 w :: s.pending := rfl
@[simp] theorem State.issueCommand_readData : (s.issueCommand w).readData = s.readData := rfl

end issueCommand

end Sys2Proof.Machine
end

