-- ==== Sys2Proof/Laws/Ops.lean ====
section
/-! SUPPORT. For each shared operation, what it can do, said once: the later proofs cite these and unfold none of them. -/

namespace Sys2Proof.Machine

/-! Ending a command. -/

theorem refuse_next_iff {c : ErrorCode} {s t : State} : refuse c s = .next t ↔ t = s.raiseError c := by
  simp [refuse, eq_comm]

theorem accept_next_iff {s t : State} : accept s = .next t ↔ t = s.recordOk := by
  simp [accept, eq_comm]

/-! Operands. -/

theorem nibblePos?_eq_some {p : Arg} {q : Fin 16} : nibblePos? p = some q ↔ p.toNat = q.val := by
  unfold nibblePos?
  split
  · simp [Fin.ext_iff]
  · simp; omega

theorem nibblePos?_eq_none {p : Arg} : nibblePos? p = none ↔ 16 ≤ p.toNat := by
  unfold nibblePos?; split <;> simp <;> omega

theorem roundIndex?_eq_some {i : Arg} {k : Fin 15} : roundIndex? i = some k ↔ i.toNat = k.val := by
  unfold roundIndex?
  split
  · simp [Fin.ext_iff]
  · simp; omega

theorem roundIndex?_eq_none {i : Arg} : roundIndex? i = none ↔ 15 ≤ i.toNat := by
  unfold roundIndex?; split <;> simp <;> omega

/-- A sequence index is found exactly in 1..4 (41_field.md R118). -/
theorem operIndex?_eq_none {i : Arg} : operIndex? i = none ↔ i.toNat = 0 ∨ 5 ≤ i.toNat := by
  revert i; decide

/-- A block finds its index exactly while a message is absorbed (46_cofb.md R184). -/
theorem absorbIndex?_eq_none {e : Fin 5} : absorbIndex? e = none ↔ phaseOf e ≠ .absorb := by
  revert e; decide

theorem phase_eq_absorb_iff {s : State} : s.phase = .absorb ↔ 1 ≤ s.exp ∧ s.exp ≤ 3 := by
  unfold State.phase
  generalize s.exp = e
  revert e; decide

/-! The window. -/

theorem windowOffset?_inside (s : State) (o : Fin 128) : s.windowOffset? (128 * s.window + o.val) = some o := by
  have ho := o.isLt
  have h : s.base ≤ 128 * s.window + o.val ∧ 128 * s.window + o.val - s.base < 128 := by
    simp only [State.base, Config.windowBytes]; omega
  simp only [State.windowOffset?, h, and_self, dite_true, Option.some.injEq, Fin.ext_iff]
  simp only [State.base, Config.windowBytes]; omega

theorem windowOffset?_eq_none_iff (s : State) (a : Nat) :
    s.windowOffset? a = none ↔ a < 128 * s.window ∨ 128 * s.window + 128 ≤ a := by
  unfold State.windowOffset?
  split
  · rename_i h
    simp only [State.base, Config.windowBytes] at h
    simp; omega
  · rename_i h
    simp only [State.base, Config.windowBytes] at h
    simp; omega

theorem windowOffset?_eq_some {s : State} {a : Nat} {o : Fin 128} (h : s.windowOffset? a = some o) :
    a = 128 * s.window + o.val := by
  unfold State.windowOffset? at h
  split at h
  · rename_i hw
    cases h
    simp only [State.base, Config.windowBytes] at hw ⊢
    omega
  · cases h

theorem accessOk_iff {o : Fin 128} {n : Nat} : accessOk o n = true ↔ n = 8 ∧ o.val % 8 = 0 := by
  simp [accessOk]

/-! Commands. -/

theorem dispatch_of_ok {w : Word} {i : Instr} (h : decode w = .ok i) (s : State) : dispatch w s = exec i s := by
  simp [dispatch, h]

theorem dispatch_of_error {w : Word} {c : ErrorCode} (h : decode w = .error c) (s : State) :
    dispatch w s = .next (s.raiseError c) := by
  simp [dispatch, h, refuse]

/-- The host's side, the window's place and the reset input are the same in both states. -/
def SameHostSide (t s : State) : Prop :=
  t.window = s.window ∧ t.resetAsserted = s.resetAsserted ∧ t.pending = s.pending ∧ t.readData = s.readData

theorem refuse_frame (c : ErrorCode) (s : State) : ∃ t, refuse c s = .next t ∧ SameHostSide t s :=
  ⟨_, rfl, rfl, rfl, rfl, rfl⟩

theorem accept_frame {u s : State} (h : SameHostSide u s) : ∃ t, accept u = .next t ∧ SameHostSide t s :=
  ⟨_, rfl, h⟩

theorem setRes_frame (v : Word) (s : State) : SameHostSide (s.setRes v) s := ⟨rfl, rfl, rfl, rfl⟩

theorem msgInit_frame (d : Direction) (s : State) : SameHostSide (msgInit d s) s := by
  unfold msgInit
  exact ⟨rfl, rfl, rfl, rfl⟩

theorem absorbBlock_frame (k : OperIndex) (s : State) : SameHostSide (absorbBlock k s) s := by
  simp only [SameHostSide, absorbBlock, blockOutput, State.setExp_window, State.setExp_resetAsserted,
    State.setExp_pending, State.setExp_readData, State.setY_window, State.setY_resetAsserted, State.setY_pending,
    State.setY_readData, State.setFs_window, State.setFs_resetAsserted, State.setFs_pending, State.setFs_readData]
  split <;> exact ⟨rfl, rfl, rfl, rfl⟩

/-- A command answers a next state, and touches neither the host's side nor the window nor the reset input (20_memory.md
R51). -/
theorem exec_next_frame (i : Instr) (s : State) : ∃ t, exec i s = .next t ∧ SameHostSide t s := by
  cases i
  case nop => exact accept_frame ⟨rfl, rfl, rfl, rfl⟩
  case sreset => exact accept_frame ⟨rfl, rfl, rfl, rfl⟩
  case nibRd p =>
    simp only [exec, execNibRd]
    split
    · exact refuse_frame _ _
    · exact accept_frame (setRes_frame _ _)
  case nibWr p =>
    simp only [exec, execNibWr]
    split
    · exact refuse_frame _ _
    · exact accept_frame (setRes_frame _ _)
  case gfOper i =>
    simp only [exec, execGfOper]
    split
    · exact refuse_frame _ _
    · split
      · exact refuse_frame _ _
      · exact accept_frame ⟨rfl, rfl, rfl, rfl⟩
  case gfSeed =>
    simp only [exec, execGfSeed]
    split
    · exact refuse_frame _ _
    · exact accept_frame ⟨rfl, rfl, rfl, rfl⟩
  case round i =>
    simp only [exec, execRound]
    split
    · exact refuse_frame _ _
    · exact accept_frame (setRes_frame _ _)
  case ksRk i =>
    simp only [exec, execKsRk]
    split
    · exact refuse_frame _ _
    · exact accept_frame (setRes_frame _ _)
  case cofbInitEnc => exact accept_frame (msgInit_frame _ _)
  case cofbInitDec => exact accept_frame (msgInit_frame _ _)
  case cofbBlock =>
    simp only [exec, execCofbBlock]
    split
    · exact refuse_frame _ _
    · exact accept_frame (absorbBlock_frame _ _)
  case cofbAbort => exact accept_frame ⟨rfl, rfl, rfl, rfl⟩
  all_goals exact accept_frame (setRes_frame _ _)

/-! Accesses. -/

/-- A read inside the window always answers a next state (20_memory.md R53). -/
theorem memRead_eq (o : Fin 128) (n : Nat) (s : State) :
    memRead o n s = .next (if n = 8 ∧ o.val % 8 = 0 then s.returnData (s.readRegister (registerAt o))
      else (s.raiseError .badAccess).returnData 0) := by
  unfold memRead
  by_cases h : n = 8 ∧ o.val % 8 = 0
  · rw [if_pos (accessOk_iff.2 h), if_pos h]
  · rw [if_neg h]
    rw [if_neg (by rw [accessOk_iff]; exact h)]

theorem memWrite_refused {o : Fin 128} {n : Nat} (h : ¬ (n = 8 ∧ o.val % 8 = 0)) (v : Word) (s : State) :
    memWrite o n v s = .next (s.raiseError .badAccess) := by
  unfold memWrite
  rw [if_neg (by rw [accessOk_iff]; exact h)]
  rfl

theorem memWrite_accepted {o : Fin 128} {n : Nat} (h : n = 8 ∧ o.val % 8 = 0) (v : Word) (s : State) :
    memWrite o n v s = writeRegister (registerAt o) v s := by
  unfold memWrite
  rw [if_pos (accessOk_iff.2 h)]

theorem held_next_iff {r : Result} {t : State} : held r = .next t ↔ ∃ u, r = .next u ∧ t = u.holdReset := by
  cases r <;> simp [held, eq_comm]

theorem decoded_none (f : Fin 128 → State → Result) (s : State) : decoded none f s = .next s := rfl

theorem decoded_some (o : Fin 128) (f : Fin 128 → State → Result) (s : State) : decoded (some o) f s = f o s := rfl

/-- An access outside the window leaves the engine as it was; one inside is performed at its offset (20_memory.md R50). -/
theorem decoded_window_next_iff {s u t : State} {a : Nat} {f : Fin 128 → State → Result} :
    decoded (s.windowOffset? a) f u = .next t ↔
      ((a < 128 * s.window ∨ 128 * s.window + 128 ≤ a) ∧ t = u) ∨
      ∃ o : Fin 128, a = 128 * s.window + o.val ∧ f o u = .next t := by
  cases ho : s.windowOffset? a with
  | none =>
    have ha := (windowOffset?_eq_none_iff s a).1 ho
    rw [decoded_none]
    constructor
    · intro h
      cases h
      exact .inl ⟨ha, rfl⟩
    · rintro (⟨-, rfl⟩ | ⟨o, rfl, -⟩)
      · rfl
      · have := o.isLt
        omega
  | some o =>
    rw [decoded_some]
    constructor
    · exact fun h => .inr ⟨o, windowOffset?_eq_some ho, h⟩
    · rintro (⟨ha, -⟩ | ⟨p, rfl, hp⟩)
      · rw [(windowOffset?_eq_none_iff s a).2 ha] at ho
        cases ho
      · rw [windowOffset?_inside] at ho
        cases ho
        exact hp

/-- What a step can do: hold, read, write, pass over an access outside the window, or take a change of the reset input. -/
theorem step_next_cases {s t : State} (h : step s = .next t) :
    (s.pending = [] ∧ t = s) ∨
    (∃ rest o n, s.pending = .read (128 * s.window + Fin.val o) n :: rest ∧
      ∃ u, memRead o n (s.setPending rest) = .next u ∧ t = u.holdReset) ∨
    (∃ rest o n v, s.pending = .write (128 * s.window + Fin.val o) n v :: rest ∧
      ∃ u, memWrite o n v (s.setPending rest) = .next u ∧ t = u.holdReset) ∨
    (∃ rest a n v, (s.pending = .read a n :: rest ∨ s.pending = .write a n v :: rest) ∧
      (a < 128 * s.window ∨ 128 * s.window + 128 ≤ a) ∧ t = (s.setPending rest).holdReset) ∨
    (∃ rest, s.pending = .resetAssert :: rest ∧
      t = { (s.setPending rest).resetRegisters with resetAsserted := true }) ∨
    (∃ rest, s.pending = .resetRelease :: rest ∧
      t = { (s.setPending rest).resetRegisters with resetAsserted := false }) := by
  unfold step serveNext at h
  cases hp : s.pending with
  | nil => simp only [hp] at h; cases h; exact .inl ⟨rfl, rfl⟩
  | cons e rest =>
    simp only [hp] at h
    cases e with
    | read a n =>
      simp only [perform] at h
      obtain ⟨u, hu, ht⟩ := held_next_iff.1 h
      obtain ⟨ha, rfl⟩ | ⟨o, rfl, ho⟩ := decoded_window_next_iff.1 hu
      · exact .inr (.inr (.inr (.inl ⟨rest, a, n, 0, .inl rfl, ha, ht⟩)))
      · exact .inr (.inl ⟨rest, o, n, rfl, u, ho, ht⟩)
    | write a n v =>
      simp only [perform] at h
      obtain ⟨u, hu, ht⟩ := held_next_iff.1 h
      obtain ⟨ha, rfl⟩ | ⟨o, rfl, ho⟩ := decoded_window_next_iff.1 hu
      · exact .inr (.inr (.inr (.inl ⟨rest, a, n, v, .inr rfl, ha, ht⟩)))
      · exact .inr (.inr (.inl ⟨rest, o, n, v, rfl, u, ho, ht⟩))
    | resetAssert => simp only [perform] at h; cases h; exact .inr (.inr (.inr (.inr (.inl ⟨rest, rfl, rfl⟩))))
    | resetRelease => simp only [perform] at h; cases h; exact .inr (.inr (.inr (.inr (.inr ⟨rest, rfl, rfl⟩))))

/-- A write of any value to any register answers a next state, and touches neither the host's side nor the window nor the
reset input. -/
theorem writeRegister_frame (r : Register) (v : Word) (s : State) :
    ∃ t, writeRegister r v s = .next t ∧ SameHostSide t s := by
  cases r
  case CMD =>
    simp only [writeRegister]
    cases hd : decode v with
    | error c => rw [dispatch_of_error hd]; exact ⟨_, rfl, rfl, rfl, rfl, rfl⟩
    | ok i => rw [dispatch_of_ok hd]; exact exec_next_frame i s
  case STATUS => refine ⟨_, rfl, ?_⟩; split <;> exact ⟨rfl, rfl, rfl, rfl⟩
  case KEY0 => simp only [writeRegister, lockedWrite]; split <;> exact ⟨_, rfl, rfl, rfl, rfl, rfl⟩
  case KEY1 => simp only [writeRegister, lockedWrite]; split <;> exact ⟨_, rfl, rfl, rfl, rfl, rfl⟩
  case NONCE => simp only [writeRegister, lockedWrite]; split <;> exact ⟨_, rfl, rfl, rfl, rfl, rfl⟩
  all_goals exact ⟨_, rfl, rfl, rfl, rfl, rfl⟩

/-- The same of a write of any size at any offset (20_memory.md R54). -/
theorem memWrite_frame (o : Fin 128) (n : Nat) (v : Word) (s : State) :
    ∃ t, memWrite o n v s = .next t ∧ SameHostSide t s := by
  unfold memWrite
  split
  · exact writeRegister_frame _ _ _
  · exact refuse_frame _ _

/-- Holding the registers at reset touches neither the host's side nor the window nor the reset input. -/
theorem holdReset_frame (s : State) : SameHostSide s.holdReset s := by
  unfold State.holdReset
  split <;> exact ⟨rfl, rfl, rfl, rfl⟩

theorem holdReset_of_released {s : State} (h : s.resetAsserted = false) : s.holdReset = s := by
  simp [State.holdReset, h]

/-- A read issued to offset `o` with the reset input released. -/
theorem step_issue_read (s : State) (o : Fin 128) (n : Nat) :
    step (s.issue (.read (128 * s.window + o.val) n)) = held (memRead o n { s with resetAsserted := false }) := by
  have h := windowOffset?_inside { s with resetAsserted := false } o
  simp only [step, serveNext, State.issue, State.setPending, perform]
  simp only at h
  rw [h]
  rfl

/-- A write issued to offset `o` with the reset input released. -/
theorem step_issue_write (s : State) (o : Fin 128) (n : Nat) (v : Word) :
    step (s.issue (.write (128 * s.window + o.val) n v)) = held (memWrite o n v { s with resetAsserted := false }) := by
  have h := windowOffset?_inside { s with resetAsserted := false } o
  simp only [step, serveNext, State.issue, State.setPending, perform]
  simp only at h
  rw [h]
  rfl

/-- An access issued outside the window with the reset input released: the engine takes it and keeps its state. -/
theorem step_issue_outside {s : State} {a : Nat} (h : a < 128 * s.window ∨ 128 * s.window + 128 ≤ a) {e : BusEvent}
    (he : (∃ n, e = .read a n) ∨ ∃ n v, e = .write a n v) :
    step (s.issue e) = .next { s with resetAsserted := false } := by
  have h' := (windowOffset?_eq_none_iff { s with resetAsserted := false } a).2 h
  obtain ⟨n, rfl⟩ | ⟨n, v, rfl⟩ := he <;>
  · simp only [step, serveNext, State.issue, State.setPending, perform]
    rw [h']
    rfl

end Sys2Proof.Machine
end

