-- ==== Sys2Proof/Laws/PerInstr.lean ====
section
/-! SUPPORT. The family `EncodeFields`: for every command, the three fields of its command word (spec/30_encoding.md R71). -/

namespace Sys2Proof

/-- The three fields of a word built from an opcode and an argument (R71, R78). -/
theorem commandWord_fields (o : BitVec 8) (a : Arg) :
    opcOf (commandWord o a) = o ∧ argOf (commandWord o a) = a ∧ rsvdOf (commandWord o a) = 0 := by
  refine ⟨?_, ?_, ?_⟩ <;> ext k hk
  · simp [opcOf, commandWord, hk, show k < 64 by omega]
  · simp [argOf, commandWord, hk, show 8 + k < 64 by omega]
  · simp only [rsvdOf, commandWord]
    simp [show 16 + k < 64 by omega, show ¬ 16 + k < 8 by omega, show 8 ≤ 16 + k - 8 by omega,
      BitVec.getLsbD_of_ge o (16 + k) (by omega)]

/-- OPC, ARG and RSVD of the command's word are its opcode, its argument and 0. -/
def Laws.EncodeFields.Statement (i : Instr) : Prop :=
  opcOf (encode i) = i.opcode ∧ argOf (encode i) = i.arg ∧ rsvdOf (encode i) = 0

theorem Laws.EncodeFields.nop : Laws.EncodeFields.Statement .nop := commandWord_fields _ _
theorem Laws.EncodeFields.sreset : Laws.EncodeFields.Statement .sreset := commandWord_fields _ _
theorem Laws.EncodeFields.nibRd (p : Arg) : Laws.EncodeFields.Statement (.nibRd p) := commandWord_fields _ _
theorem Laws.EncodeFields.nibWr (p : Arg) : Laws.EncodeFields.Statement (.nibWr p) := commandWord_fields _ _
theorem Laws.EncodeFields.gfAdd : Laws.EncodeFields.Statement .gfAdd := commandWord_fields _ _
theorem Laws.EncodeFields.gfDbl : Laws.EncodeFields.Statement .gfDbl := commandWord_fields _ _
theorem Laws.EncodeFields.gfTpl : Laws.EncodeFields.Statement .gfTpl := commandWord_fields _ _
theorem Laws.EncodeFields.gfOper (i : Arg) : Laws.EncodeFields.Statement (.gfOper i) := commandWord_fields _ _
theorem Laws.EncodeFields.gfSeed : Laws.EncodeFields.Statement .gfSeed := commandWord_fields _ _
theorem Laws.EncodeFields.subcell : Laws.EncodeFields.Statement .subcell := commandWord_fields _ _
theorem Laws.EncodeFields.shuffle : Laws.EncodeFields.Statement .shuffle := commandWord_fields _ _
theorem Laws.EncodeFields.shuffleInv : Laws.EncodeFields.Statement .shuffleInv := commandWord_fields _ _
theorem Laws.EncodeFields.mixcol : Laws.EncodeFields.Statement .mixcol := commandWord_fields _ _
theorem Laws.EncodeFields.keyadd : Laws.EncodeFields.Statement .keyadd := commandWord_fields _ _
theorem Laws.EncodeFields.round (i : Arg) : Laws.EncodeFields.Statement (.round i) := commandWord_fields _ _
theorem Laws.EncodeFields.ksWk : Laws.EncodeFields.Statement .ksWk := commandWord_fields _ _
theorem Laws.EncodeFields.ksRk (i : Arg) : Laws.EncodeFields.Statement (.ksRk i) := commandWord_fields _ _
theorem Laws.EncodeFields.midoriEnc : Laws.EncodeFields.Statement .midoriEnc := commandWord_fields _ _
theorem Laws.EncodeFields.maskgen : Laws.EncodeFields.Statement .maskgen := commandWord_fields _ _
theorem Laws.EncodeFields.mulgy : Laws.EncodeFields.Statement .mulgy := commandWord_fields _ _
theorem Laws.EncodeFields.cofbInitEnc : Laws.EncodeFields.Statement .cofbInitEnc := commandWord_fields _ _
theorem Laws.EncodeFields.cofbInitDec : Laws.EncodeFields.Statement .cofbInitDec := commandWord_fields _ _
theorem Laws.EncodeFields.cofbBlock : Laws.EncodeFields.Statement .cofbBlock := commandWord_fields _ _
theorem Laws.EncodeFields.cofbAbort : Laws.EncodeFields.Statement .cofbAbort := commandWord_fields _ _

end Sys2Proof
end

