-- ==== Sys2Proof/Machine/HostSyntax.lean ====
section
/-! DEFINITION. The host syntax and the pseudo-instructions of spec/30_encoding.md R78 and R79, as the accesses they
stand for. `chk` is `rd`: its comparison is the host's and no access. -/

namespace Sys2Proof.Machine

/-- `off(REG)` (10_state.md R20). -/
def registerOffset : Register → Nat
  | .KEY0 => 0x00
  | .KEY1 => 0x08
  | .NONCE => 0x10
  | .DIN => 0x18
  | .OPA => 0x20
  | .OPB => 0x28
  | .RES => 0x30
  | .DOUT => 0x38
  | .Y => 0x40
  | .BETA => 0x48
  | .FS_MX2 => 0x50
  | .FS_MX2X3 => 0x58
  | .FS_MX2X3X3 => 0x60
  | .ID => 0x68
  | .STATUS => 0x70
  | .CMD => 0x78

/-- `wr REG, v` with the window at `base` (R78). -/
def hostWr (base : Nat) (r : Register) (v : Word) : BusEvent := .write (base + registerOffset r) 8 v

/-- `rd REG` (R78). -/
def hostRd (base : Nat) (r : Register) : BusEvent := .read (base + registerOffset r) 8

/-- `cmd MNEMONIC, arg` (R78). -/
def hostCmd (base : Nat) (i : Instr) : BusEvent := .write (base + 0x78) 8 (encode i)

/-- `clrerr` (R79). -/
def hostClrerr (base : Nat) : List BusEvent := [hostWr base .STATUS 0x80]

/-- `setkey k0, k1` (R79). -/
def hostSetkey (base : Nat) (k0 k1 : Word) : List BusEvent := [hostWr base .KEY0 k0, hostWr base .KEY1 k1]

/-- `midori k0, k1, s` (R79). -/
def hostMidori (base : Nat) (k0 k1 s : Word) : List BusEvent :=
  hostSetkey base k0 k1 ++ [hostWr base .OPA s, hostCmd base .midoriEnc, hostRd base .RES]

/-- `wr DIN, b ; cmd COFB_BLOCK`. -/
def hostBlock (base : Nat) (b : Word) : List BusEvent := [hostWr base .DIN b, hostCmd base .cofbBlock]

/-- The common text of `cofb_enc` and `cofb_dec`, given the INIT command (R79). -/
def hostCofb (init : Instr) (base : Nat) (k0 k1 n a1 a2 b : Word) : List BusEvent :=
  hostSetkey base k0 k1 ++ [hostWr base .NONCE n, hostCmd base init]
    ++ hostBlock base a1 ++ hostBlock base a2 ++ hostBlock base b ++ [hostRd base .DOUT, hostRd base .Y]

/-- `cofb_enc k0, k1, n, a1, a2, b` (R79). -/
def hostCofbEnc (base : Nat) (k0 k1 n a1 a2 b : Word) : List BusEvent := hostCofb .cofbInitEnc base k0 k1 n a1 a2 b

/-- `cofb_dec k0, k1, n, a1, a2, c` (R79). -/
def hostCofbDec (base : Nat) (k0 k1 n a1 a2 c : Word) : List BusEvent := hostCofb .cofbInitDec base k0 k1 n a1 a2 c

/-- `gf_seq b` (R79). -/
def hostGfSeq (base : Nat) (b : Word) : List BusEvent :=
  [hostWr base .OPA b, hostCmd base .gfSeed, hostCmd base (.gfOper 1), hostRd base .RES,
   hostCmd base (.gfOper 2), hostRd base .RES, hostCmd base (.gfOper 3), hostRd base .RES]

end Sys2Proof.Machine
end

