-- ==== Sys2Proof/Tests/Slice0.lean ====
section
/-! SUPPORT. The model's own tests. Expected values are the vectors of spec/95_test_vectors.md and the examples of the
family files, never the model's own answers. The second part shows, for the statements that have hypotheses, states that
meet them. -/

namespace Sys2Proof.Tests

open Sys2Proof Sys2Proof.Machine

/-! ### Well-formedness: each check refuses an ill-formed command (30_encoding.md R74 step 3). -/

theorem test_illformed_nibRd : (Instr.nibRd 16).wellFormed = false := by decide
theorem test_illformed_nibWr : (Instr.nibWr 16).wellFormed = false := by decide
theorem test_illformed_gfOper_zero : (Instr.gfOper 0).wellFormed = false := by decide
theorem test_illformed_gfOper_five : (Instr.gfOper 5).wellFormed = false := by decide
theorem test_illformed_round : (Instr.round 15).wellFormed = false := by decide
theorem test_illformed_ksRk : (Instr.ksRk 15).wellFormed = false := by decide

/-! ### Decoding: one word per constructor, written from 30_encoding.md R73 (OPC 7:0, ARG 15:8, RSVD 0). -/

theorem test_decode_nop : decodeTableWord 64 0x0000 = some .nop := by decide
theorem test_decode_sreset : decodeTableWord 64 0x0001 = some .sreset := by decide
theorem test_decode_nibRd : decodeTableWord 64 0x0510 = some (.nibRd 5) := by decide
theorem test_decode_nibWr : decodeTableWord 64 0x0F11 = some (.nibWr 15) := by decide
theorem test_decode_gfAdd : decodeTableWord 64 0x0020 = some .gfAdd := by decide
theorem test_decode_gfDbl : decodeTableWord 64 0x0021 = some .gfDbl := by decide
theorem test_decode_gfTpl : decodeTableWord 64 0x0022 = some .gfTpl := by decide
theorem test_decode_gfOper : decodeTableWord 64 0x0423 = some (.gfOper 4) := by decide
theorem test_decode_gfSeed : decodeTableWord 64 0x0024 = some .gfSeed := by decide
theorem test_decode_subcell : decodeTableWord 64 0x0030 = some .subcell := by decide
theorem test_decode_shuffle : decodeTableWord 64 0x0031 = some .shuffle := by decide
theorem test_decode_shuffleInv : decodeTableWord 64 0x0032 = some .shuffleInv := by decide
theorem test_decode_mixcol : decodeTableWord 64 0x0033 = some .mixcol := by decide
theorem test_decode_keyadd : decodeTableWord 64 0x0034 = some .keyadd := by decide
theorem test_decode_round : decodeTableWord 64 0x0E35 = some (.round 14) := by decide
theorem test_decode_ksWk : decodeTableWord 64 0x0040 = some .ksWk := by decide
theorem test_decode_ksRk : decodeTableWord 64 0x0041 = some (.ksRk 0) := by decide
theorem test_decode_midoriEnc : decodeTableWord 64 0x0042 = some .midoriEnc := by decide
theorem test_decode_maskgen : decodeTableWord 64 0x0050 = some .maskgen := by decide
theorem test_decode_mulgy : decodeTableWord 64 0x0051 = some .mulgy := by decide
theorem test_decode_cofbInitEnc : decodeTableWord 64 0x0060 = some .cofbInitEnc := by decide
theorem test_decode_cofbInitDec : decodeTableWord 64 0x0061 = some .cofbInitDec := by decide
theorem test_decode_cofbBlock : decodeTableWord 64 0x0062 = some .cofbBlock := by decide
theorem test_decode_cofbAbort : decodeTableWord 64 0x0063 = some .cofbAbort := by decide

/-- The three worked encodings of 30_encoding.md R78. -/
theorem test_encode_examples :
    encode (.nibRd 5) = 0x0510 ∧ encode (.round 14) = 0x0E35 ∧ encode .cofbBlock = 0x0062 := by decide

/-- The code a word is refused with. -/
def refusalOf (w : Word) : Option ErrorCode :=
  match decode w with
  | .error c => some c
  | .ok _ => none

/-- T-ERR-6, T-ERR-7, and the ends of a gap of R74: the first branch. -/
theorem test_refuse_opcode :
    [0xFF, 0x64, 0x02, 0x0F, 0x10002].map refusalOf = List.replicate 5 (some .illegalOpcode) := by decide

/-- T-ERR-8, T-ERR-9, T-ERR-18, program P4 step 8, and RESERVED_BITS before ARG_RANGE: the second branch. -/
theorem test_refuse_reserved :
    [0x0100, 0x1000000000000000, 0x10062, 0x0162, 0x11023].map refusalOf = List.replicate 5 (some .reservedBits) := by
  decide

/-- T-ERR-1 to T-ERR-5 and T-NIB-10: the third branch. -/
theorem test_refuse_range :
    [0x1010, 0x0F35, 0x0023, 0x0523, 0x0F41, 0xFF11].map refusalOf = List.replicate 6 (some .argRange) := by decide

/-- The ends of the legal ranges (R73): no refusal. -/
theorem test_accept_range :
    [0x0010, 0x0F10, 0x0011, 0x0F11, 0x0123, 0x0423, 0x0035, 0x0E35, 0x0041, 0x0E41].map refusalOf
      = List.replicate 10 none := by decide

/-! ### Commands: values of 95_test_vectors.md section 3. -/

/-- A field after a command. -/
def after {α : Type} (f : State → α) (i : Instr) (s : State) : Option α :=
  match exec i s with
  | .next t => some (f t)
  | _ => none

/-- The reset state with two operands. -/
def withOperands (a b : Word) : State := { State.reset with opa := a, opb := b }

/-- The reset state with the key KA of 95_test_vectors.md, an operand and the nonce. -/
def withKeyA (a : Word) : State :=
  { State.reset with key0 := 0x0123456789ABCDEF, key1 := 0xFEDCBA9876543210, nonce := 0x0123456789ABCDEF, opa := a }

/-- The error record. -/
def record (s : State) : ErrorCode × Bool := (s.lastErr, s.err)

/-- T-SYS-1. -/
theorem test_nop : after record .nop { State.reset with err := true, lastErr := .argRange } = some (.ok, true) := by
  decide
/-- T-SYS-2. -/
theorem test_sreset : after id .sreset { withKeyA 5 with exp := 2, y := 7, err := true } = some State.reset := by decide
/-- T-NIB-2, T-NIB-3. -/
theorem test_nibRd : [7, 15].map (fun p => after State.res (.nibRd p) (withOperands 0x0123456789ABCDEF 0))
    = [some 0x7, some 0xF] := by decide +kernel
/-- T-NIB-9: the error is recorded and RES keeps its value. -/
theorem test_nibRd_range : after (fun s => (s.res, record s)) (.nibRd 16) { withOperands 1 0 with res := 3 }
    = some (3, .argRange, true) := by decide
/-- T-NIB-5, T-NIB-7. -/
theorem test_nibWr : after State.res (.nibWr 0) (withOperands 0x0123456789ABCDEF 0xF) = some 0xF123456789ABCDEF
    ∧ after State.res (.nibWr 5) (withOperands 0x0123456789ABCDEF 0x1A) = some 0x01234A6789ABCDEF := by decide +kernel
/-- T-NIB-10. -/
theorem test_nibWr_range : after (fun s => (s.res, record s)) (.nibWr 0xFF) { withOperands 1 0 with res := 3 }
    = some (3, .argRange, true) := by decide
/-- T-GF-10, with the high halves of the operands set. -/
theorem test_gfAdd : after State.res .gfAdd (withOperands 0xFFFFFFFF12345678 0x0000000187654321) = some 0x95511559 := by
  decide +kernel
/-- T-GF-4, T-GF-7, T-GF-9. -/
theorem test_gfDbl : [0x80000000, 0x87654321, 0x1FFFFFFFF].map (fun a => after State.res .gfDbl (withOperands a 0))
    = [some 0x1B, some 0x0ECA8659, some 0xFFFFFFE5] := by decide +kernel
/-- T-GF-4, T-GF-6, T-GF-9. -/
theorem test_gfTpl : [0x80000000, 0x12345678, 0x1FFFFFFFF].map (fun a => after State.res .gfTpl (withOperands a 0))
    = [some 0x8000001B, some 0x365CFA88, some 0x1A] := by decide +kernel

/-- FS and RES. -/
def fsAndRes (s : State) : FieldElt × FieldElt × FieldElt × Word := (s.fs.mx2, s.fs.mx2x3, s.fs.mx2x3x3, s.res)

/-- The steps of T-GF-15 with index 3 and index 4, from the FieldState before each. -/
theorem test_gfOper :
    after fsAndRes (.gfOper 3) { State.reset with fs := ⟨0xBD5B7DC5, 0xC7ED8654, 0xDEADBEEF⟩ }
      = some (0x7AB6FB91, 0x8FDB0CB3, 0xDEADBEEF, 0x8FDB0CB3) ∧
    after fsAndRes (.gfOper 4) { State.reset with fs := ⟨0x7AB6FB91, 0x8FDB0CB3, 0xDEADBEEF⟩, exp := 4 }
      = some (0x7AB6FB91, 0x8FDB0CB3, 0x906D15CE, 0x906D15CE) := by decide +kernel
/-- T-ERR-12, T-ERR-13: the phase check comes after the range check. -/
theorem test_gfOper_refused :
    after record (.gfOper 1) { State.reset with exp := 1 } = some (.msgBusy, true) ∧
    after record (.gfOper 4) { State.reset with exp := 3 } = some (.msgBusy, true) ∧
    after record (.gfOper 0x10) { State.reset with exp := 1 } = some (.argRange, true) ∧
    after record (.gfOper 0) State.reset = some (.argRange, true) ∧
    after record (.gfOper 5) State.reset = some (.argRange, true) := by decide
/-- The example of 41_field.md R119: RES is not written. -/
theorem test_gfSeed : after fsAndRes .gfSeed { withOperands 0x1DEADBEEF 0 with res := 9 }
    = some (0xDEADBEEF, 0xDEADBEEF, 0xDEADBEEF, 9) := by decide +kernel
/-- MSG_BUSY in ABSORB (R119). -/
theorem test_gfSeed_busy : after record .gfSeed { State.reset with exp := 3 } = some (.msgBusy, true) := by decide
/-- T-ROUND-4. -/
theorem test_subcell : after State.res .subcell (withOperands 0x42C20FD3B586879E 0) = some 0xED0DC6235B8F8794 := by
  decide +kernel
/-- T-ROUND-4. -/
theorem test_shuffle : after State.res .shuffle (withOperands 0x42C20FD3B586879E 0) = some 0x48FE9062528D37CB := by
  decide +kernel
/-- T-ROUND-4. -/
theorem test_shuffleInv : after State.res .shuffleInv (withOperands 0x42C20FD3B586879E 0) = some 0x4395FC68EB2D8702 := by
  decide +kernel
/-- T-ROUND-4. -/
theorem test_mixcol : after State.res .mixcol (withOperands 0x42C20FD3B586879E 0) = some 0xCA4A1EC2B5860F16 := by
  decide +kernel
/-- The KEYADD vector of T-ROUND. -/
theorem test_keyadd : after State.res .keyadd (withOperands 0x0123456789ABCDEF 0xFFFFFFFFFFFFFFFF)
    = some 0xFEDCBA9876543210 := by decide +kernel
/-- The ROUND vector of T-ROUND under KA, and V-D-CIPH2's round 14. -/
theorem test_round : after State.res (.round 0) (withKeyA 0xFEDCBA9876543210) = some 0x6A3EB4D73CD640D9
    ∧ after State.res (.round 14) (withKeyA 0xE7AE28F7CE7901A9) = some 0x75896BC377C67B33 := by decide +kernel
/-- T-ERR-2. -/
theorem test_round_range : after record (.round 15) (withKeyA 0) = some (.argRange, true) := by decide
/-- T-KS-1. -/
theorem test_ksWk : after State.res .ksWk (withKeyA 0) = some 0xFFFFFFFFFFFFFFFF := by decide +kernel
/-- T-KS-1: an even round, an odd round and the last. -/
theorem test_ksRk : [0, 1, 14].map (fun i => after State.res (.ksRk i) (withKeyA 0))
    = [some 0x0122446699BACDFE, some 0xFFCDAA9867543210, some 0x1022547699AACDEF] := by decide +kernel
/-- T-ERR-5. -/
theorem test_ksRk_range : after record (.ksRk 15) (withKeyA 0) = some (.argRange, true) := by decide
/-- V-D-CIPH2. -/
theorem test_midoriEnc : after State.res .midoriEnc (withKeyA 0x0123456789ABCDEF) = some 0x84760AFC88F08ACC := by
  decide +kernel
/-- V-GK2, the published vector: the order of the key halves. -/
theorem test_midoriEnc_published : after State.res .midoriEnc { State.reset with
    key0 := 0x687DED3B3C85B3F3, key1 := 0x5B1009863E2A8CBF, opa := 0x42C20FD3B586879E } = some 0x66BCDC6270D901CD := by
  decide +kernel
/-- T-MASK-3, T-MASK-5. -/
theorem test_maskgen : [0x0123456789ABCDEF, 0xFFFF00000000FFFF].map (fun a => after State.res .maskgen (withOperands a 0))
    = [some 0x456789AB, some 0] := by decide +kernel
/-- T-MASK-3, T-MASK-4. -/
theorem test_mulgy : [0x0123456789ABCDEF, 0x8000000000000001].map (fun a => after State.res .mulgy (withOperands a 0))
    = [some 0x456789ABCDEFCCCC, some 0x18001] := by decide +kernel

/-- The message state: Y, BETA, FS, DOUT, STATUS. -/
def messageState (s : State) : Word × FieldElt × FieldState × Word × Word := (s.y, s.beta, s.fs, s.dout, statusWord s)

/-- V-D-COFB1 after COFB_INIT_ENC. -/
theorem test_cofbInitEnc : after messageState .cofbInitEnc { withKeyA 0 with dout := 5 }
    = some (0x84760AFC88F08ACC, 0x0AFC88F0, ⟨0x0AFC88F0, 0x0AFC88F0, 0x0AFC88F0⟩, 0, 0x09) := by decide +kernel
/-- V-D-COFB1 after COFB_INIT_DEC. -/
theorem test_cofbInitDec : after messageState .cofbInitDec (withKeyA 0)
    = some (0x84760AFC88F08ACC, 0x0AFC88F0, ⟨0x0AFC88F0, 0x0AFC88F0, 0x0AFC88F0⟩, 0, 0x29) := by decide +kernel

/-- V-D-COFB1 before its payload block. -/
def beforePayload (d : Direction) (b : Block) : State :=
  { withKeyA 0 with
    y := 0xA0FA9A609B103C39, beta := 0x0AFC88F0, fs := ⟨0x15F911E0, 0x3E0B3220, 0x0AFC88F0⟩, exp := 3, dir := d, din := b }

/-- V-D-COFB1's payload block, in both directions. -/
theorem test_cofbBlock_payload :
    after messageState .cofbBlock (beforePayload .encrypt 0xAAAABBBBCCCCDDDD)
      = some (0x94FE3551E43B70FA, 0x0AFC88F0, ⟨0x2BF223C0, 0x7C166440, 0x0AFC88F0⟩, 0x0A5021DB57DCE1E4, 0x54) ∧
    after messageState .cofbBlock (beforePayload .decrypt 0x0A5021DB57DCE1E4)
      = some (0x94FE3551E43B70FA, 0x0AFC88F0, ⟨0x2BF223C0, 0x7C166440, 0x0AFC88F0⟩, 0xAAAABBBBCCCCDDDD, 0x74) := by
  decide +kernel
/-- V-D-COFB7: the first block; and T-ERR-11: a fourth block is refused. -/
theorem test_cofbBlock_first_and_fourth :
    after messageState .cofbBlock { withKeyA 0 with
        y := 0x84760AFC88F08ACC, beta := 0x0AFC88F0, fs := ⟨0x0AFC88F0, 0x0AFC88F0, 0x0AFC88F0⟩, exp := 1,
        din := 0x1111111111111111 }
      = some (0x168AA890510FA360, 0x0AFC88F0, ⟨0x15F911E0, 0x0AFC88F0, 0x0AFC88F0⟩, 0, 0x0A) ∧
    after statusWord .cofbBlock { State.reset with exp := 4, doutValid := true } = some 0x4D4 := by decide +kernel
/-- T-SYS-3. -/
theorem test_cofbAbort : after messageState .cofbAbort (beforePayload .encrypt 0) = some (0, 0, ⟨0, 0, 0⟩, 0, 0) := by
  decide +kernel

/-! ### Accesses: T-ERR-14 to T-ERR-20, started in ABSORB with EXP 1 and the window at 128. -/

/-- ABSORB, EXP 1, DIN 5, KEY0 6; BASE is 128. -/
def absorbing : State := { State.reset with exp := 1, din := 5, key0 := 6, window := 1 }

/-- A view of the state after one event. -/
def afterEvent {α : Type} (f : State → α) (s : State) (e : BusEvent) : Option α :=
  match step (s.issue e) with
  | .next t => some (f t)
  | _ => none

theorem test_locked : afterEvent (fun s => (s.key0, statusWord s)) absorbing (hostWr 128 .KEY0 9) = some (6, 0x689) := by
  decide +kernel
theorem test_bad_write : afterEvent (fun s => (s.din, statusWord s)) absorbing (.write (128 + 0x1C) 4 0)
    = some (5, 0x789) := by decide +kernel
theorem test_bad_read : afterEvent (fun s => (s.readData, statusWord s)) absorbing (.read (128 + 0x44) 8)
    = some ([0], 0x789) := by decide +kernel
theorem test_read_only : afterEvent statusWord absorbing (hostWr 128 .Y 9) = some 0x889 := by decide +kernel
theorem test_read_cmd : afterEvent (fun s => (s.readData, statusWord s)) absorbing (hostRd 128 .CMD)
    = some ([0], 0x09) := by decide +kernel
theorem test_clrerr : afterEvent record { absorbing with err := true, lastErr := .argRange } (hostWr 128 .STATUS 0x80)
    = some (.argRange, false) := by decide
/-- The first access of program P1 and the value it leaves. -/
theorem test_write_key : afterEvent State.key0 State.reset (hostWr 0 .KEY0 0x0123456789ABCDEF)
    = some 0x0123456789ABCDEF := by decide
/-- A command word placed for the next step runs: `cmd ROUND, 0` under the zero key (42_round.md R140). -/
theorem test_fetch_word :
    (match step (State.reset.withFetchWord 64 0x35) with
      | .next t => some (t.res, t.pending)
      | _ => none) = some (0xCCCDCDCDDCDDCCDD, []) := by decide +kernel

/-! ### Witnesses: the hypotheses of the statements are met. -/

/-- StepPerformsDecodedCommand. -/
theorem test_witness_decoded : decode 0x0E35 = .ok (.round 14) := by rfl
/-- StepRecordsRefusedWord. -/
theorem test_witness_refused : decode 0x0F35 = .error .argRange := by rfl

/-- OutsideWindowLeavesEngine: the last address below the window and the first above it; the addresses between are inside. -/
theorem test_witness_outside :
    127 < 128 * absorbing.window ∧ 128 * absorbing.window + 128 ≤ 256 ∧
    absorbing.windowOffset? 127 = none ∧ absorbing.windowOffset? 256 = none ∧
    absorbing.windowOffset? 128 = some 0 ∧ absorbing.windowOffset? 255 = some 127 := by decide

/-- R50: an access just past the window changes nothing, and the next access is performed. -/
theorem test_outside_then_next :
    (match step { absorbing with pending := [.write 256 8 1, hostWr 128 .DIN 7] } with
      | .next t => some (decide (t = { absorbing with pending := [hostWr 128 .DIN 7] }),
          match step t with
          | .next u => some u.din
          | _ => none)
      | _ => none) = some (true, some 7) := by decide

/-- ResetHeldWhileAsserted: an access while the reset input is asserted. -/
theorem test_witness_reset_held :
    ResetInv { State.reset with resetAsserted := true, pending := [.write 0 8 5] } ∧
    step { State.reset with resetAsserted := true, pending := [.write 0 8 5] }
      = .next { State.reset with resetAsserted := true } :=
  ⟨fun _ => rfl, rfl⟩

/-- ErrClearedOnlyByThree: each of the ways, and one event that does not clear. -/
theorem test_witness_err_cleared :
    [hostWr 128 .STATUS 0x80, .write 248 8 1, .resetAssert, .resetRelease, hostCmd 128 .nop].map
      (afterEvent State.err { absorbing with err := true }) = [some false, some false, some false, some false, some true] := by
  decide

/-- ErrorsIgnoreData: two states that differ in a data register meet the hypotheses with one event. -/
theorem test_witness_errors_ignore_data :
    absorbing ≠ { absorbing with y := 77 } ∧
    afterEvent record absorbing (hostWr 128 .NONCE 1) = some (.locked, true) ∧
    afterEvent record { absorbing with y := 77 } (hostWr 128 .NONCE 1) = some (.locked, true) := by decide

/-- FieldStateWriters: each of the commands it names writes FS in some state. -/
theorem test_witness_fs_writers :
    [(Instr.gfOper 1, (0 : Fin 5)), (.gfOper 1, 4), (.gfSeed, 0), (.gfSeed, 4), (.cofbInitEnc, 2), (.cofbInitDec, 0),
      (.cofbBlock, 1), (.cofbBlock, 3), (.cofbAbort, 4), (.sreset, 3)].map
      (fun p => after (fun t => decide (t.fs = ⟨1, 2, 3⟩)) p.1 { State.reset with fs := ⟨1, 2, 3⟩, exp := p.2 })
      = List.replicate 10 (some false) := by decide +kernel

/-- CounterPolicy: a block is refused at both ends of its range, and the third clause has an event. -/
theorem test_witness_counter :
    after record .cofbBlock State.reset = some (.seqError, true) ∧
    after record .cofbBlock { State.reset with exp := 4 } = some (.seqError, true) ∧
    afterEvent State.exp absorbing (.write 248 4 0x62) = some 1 := by decide

/-- KeyAndNonceLocked: at both ends of ABSORB. -/
theorem test_witness_locked :
    afterEvent (fun s => (s.key0, s.nonce)) absorbing (hostCmd 128 .nop) = some (6, 0) ∧
    afterEvent (fun s => (s.key0, s.nonce)) { absorbing with exp := 3 } (hostWr 128 .NONCE 8) = some (6, 0) := by decide

/-- A message after its COFB_INIT_ENC under the zero key and nonce (V-D-COFB3), with the first COFB_BLOCK issued. -/
def started : State := { State.reset with
  y := 0x3C9CCEDA2BBD449A, beta := 0xCEDA2BBD, fs := ⟨0xCEDA2BBD, 0xCEDA2BBD, 0xCEDA2BBD⟩, exp := 1,
  pending := [.write 0x78 8 0x62] }

/-- StepKeepsMessageState: a state that meets the invariant. -/
theorem test_witness_message_inv : MessageInv started where
  validAtDone := by decide
  noOutput := fun _ => rfl
  idleClear := by decide
  maskOfNonce := by decide +kernel
  beforeFirst := by decide +kernel
  beforeSecond := by decide
  beforeThird := by decide

/-- StepKeepsMessageState: its step answers a next state (V-D-COFB3, EXP 1). -/
theorem test_witness_message_step :
    (match step started with
      | .next t => some (t.y, t.fs, t.exp)
      | _ => none) = some (0x963522FB7D900872, ⟨0x9DB45761, 0xCEDA2BBD, 0xCEDA2BBD⟩, 2) := by decide +kernel

/-- DecryptUndoesEncrypt and MessageForgetsThePast: two engines with one key and nonce and different pasts. -/
theorem test_witness_same_key :
    (withKeyA 0).key0 = (beforePayload .encrypt 7).key0 ∧ (withKeyA 0).key1 = (beforePayload .encrypt 7).key1 ∧
    (withKeyA 0).nonce = (beforePayload .encrypt 7).nonce ∧ withKeyA 0 ≠ beforePayload .encrypt 7 := by decide

/-- PayloadDirectionsAgree. -/
theorem test_witness_payload : (beforePayload .encrypt 0).exp = 3 := by rfl

end Sys2Proof.Tests
end

section
/-! PROOF. The PHASE field of STATUS (spec/10_state.md R31, R32). -/

namespace Sys2Proof.Machine

/-- ERR, DOUT_VALID, DIR and LAST_ERR stand at bit 5 or above, so they set no bit of 4:3 (R31). -/
theorem phaseField_of_fieldAbove (x : Word) (n : Nat) (hn : 5 ≤ n) : (x <<< n).extractLsb' 3 2 = 0#2 := by
  ext j hj
  have hbelow : 3 + j < n := by omega
  simp [hbelow]

/-- EXP ends at bit 2, so it sets no bit of 4:3 (R31). -/
theorem phaseField_of_counter (e : Fin 5) : (BitVec.ofNat 64 e.val).extractLsb' 3 2 = 0#2 := by
  revert e; decide

theorem phaseField_of_phaseBits (p : BitVec 2) : (p.setWidth 64 <<< 3).extractLsb' 3 2 = p := by
  revert p; decide

/-- The fields of STATUS do not overlap at bits 4:3: what stands there is PHASE alone (R31). -/
theorem statusWord_phaseField (s : State) : (statusWord s).extractLsb' 3 2 = phaseBits s.phase := by
  simp only [statusWord, BitVec.extractLsb'_or, phaseField_of_fieldAbove, phaseField_of_phaseBits,
    phaseField_of_counter, BitVec.zero_or, BitVec.or_zero, Nat.reduceLeDiff]

/-- The three values of PHASE, by EXP (R32). -/
theorem phaseBits_phaseOf (e : Fin 5) :
    phaseBits (phaseOf e) = if e = 0 then 0 else if e = 1 ∨ e = 2 ∨ e = 3 then 1 else 2 := by
  revert e; decide

/-- Settles O9: the field holds the bits of PHASE, and PHASE is computed from EXP. -/
theorem phaseFieldFollowsCounter : Obligations.PhaseFieldFollowsCounter := fun s =>
  calc (s.readRegister .STATUS).extractLsb' 3 2
    _ = phaseBits (phaseOf s.exp) := statusWord_phaseField s
    _ = if s.exp = 0 then 0 else if s.exp = 1 ∨ s.exp = 2 ∨ s.exp = 3 then 1 else 2 := phaseBits_phaseOf s.exp

end Sys2Proof.Machine
end

section
/-! PROOF. The host's reads and writes of the register window (spec/20_memory.md R53, R54; STATUS: spec/10_state.md
R31). -/

namespace Sys2Proof.Machine

/-! The host's side of an access. -/

/-- The register at an aligned offset is the one whose offset it is (10_state.md R20). -/
theorem registerOffset_registerAt : ∀ {o : Fin 128}, o.val % 8 = 0 → registerOffset (registerAt o) = o.val := by
  decide

/-- A read does not touch the reset input, so with the input released nothing is held at reset afterwards. -/
theorem held_memRead {s : State} (hs : s.resetAsserted = false) (o : Fin 128) (n : Nat) :
    held (memRead o n s) = memRead o n s := by
  rw [memRead_eq]
  refine congrArg _ (holdReset_of_released ?_)
  split <;> exact hs

/-- The same of a write, a command included. -/
theorem held_memWrite {s : State} (hs : s.resetAsserted = false) (o : Fin 128) (n : Nat) (v : Word) :
    held (memWrite o n v s) = memWrite o n v s := by
  obtain ⟨t, ht, -, hreset, -, -⟩ := memWrite_frame o n v s
  rw [ht]
  exact congrArg _ (holdReset_of_released (hreset.trans hs))

/-! STATUS as a sum of its fields. -/

/-- A field placed above a value that ends below it adds its multiple of the place: the OR carries nothing. -/
theorem toNat_field_or {m k : Nat} (x : BitVec m) {y : Word} (hy : y.toNat < 2 ^ k) (hk : m + k ≤ 64) :
    (x.setWidth 64 <<< k ||| y).toNat = 2 ^ k * x.toNat + y.toNat := by
  have hshift : x.toNat <<< k < 2 ^ 64 := by
    calc x.toNat <<< k = x.toNat * 2 ^ k := Nat.shiftLeft_eq _ _
      _ < 2 ^ m * 2 ^ k := Nat.mul_lt_mul_of_pos_right x.isLt (Nat.two_pow_pos k)
      _ = 2 ^ (m + k) := (Nat.pow_add 2 m k).symm
      _ ≤ 2 ^ 64 := Nat.pow_le_pow_right (by decide) hk
  rw [BitVec.toNat_or, BitVec.toNat_shiftLeft, BitVec.toNat_setWidth_of_le (by omega), Nat.mod_eq_of_lt hshift,
    ← Nat.shiftLeft_add_eq_or_of_lt hy, Nat.shiftLeft_eq, Nat.mul_comm]

theorem toNat_phaseBits (e : Fin 5) : (phaseBits (phaseOf e)).toNat = Ref.phaseNumber e := by
  revert e; decide

theorem toNat_errorBits (c : ErrorCode) : (errorBits c).toNat = Ref.errorNumber c := by
  cases c <;> rfl

theorem toNat_directionBit (d : Direction) : (directionBit d).toNat = if d = .decrypt then 1 else 0 := by
  cases d <;> rfl

theorem toNat_counter (e : Fin 5) : (BitVec.ofNat 64 e.val).toNat = e.val := by
  revert e; decide

/-- The fields of STATUS from the highest down to EXP. -/
theorem statusWord_eq_nested (s : State) :
    statusWord s = (errorBits s.lastErr).setWidth 64 <<< 8 ||| ((BitVec.ofBool s.err).setWidth 64 <<< 7
      ||| ((BitVec.ofBool s.doutValid).setWidth 64 <<< 6 ||| ((directionBit s.dir).setWidth 64 <<< 5
      ||| ((phaseBits s.phase).setWidth 64 <<< 3 ||| BitVec.ofNat 64 s.exp.val)))) := by
  rw [statusWord, BitVec.or_comm]
  simp only [BitVec.or_assoc]

/-- Each field of STATUS ends below the next one, so the word is the sum of the fields at their places (R31). -/
theorem toNat_statusWord (s : State) : (statusWord s).toNat = Ref.statusNumber s := by
  have hexp := s.exp.isLt
  have h3 := toNat_field_or (k := 3) (phaseBits s.phase) (y := BitVec.ofNat 64 s.exp.val)
    (by rw [toNat_counter]; omega) (by decide)
  have h5 := toNat_field_or (k := 5) (directionBit s.dir) (by rw [h3, toNat_counter]; omega) (by decide)
  have h6 := toNat_field_or (k := 6) (BitVec.ofBool s.doutValid) (by rw [h5, h3, toNat_counter]; omega) (by decide)
  have h7 := toNat_field_or (k := 7) (BitVec.ofBool s.err) (by rw [h6, h5, h3, toNat_counter]; omega) (by decide)
  have h8 := toNat_field_or (k := 8) (errorBits s.lastErr) (by rw [h7, h6, h5, h3, toNat_counter]; omega) (by decide)
  rw [statusWord_eq_nested, h8, h7, h6, h5, h3, toNat_counter, State.phase, toNat_phaseBits, toNat_errorBits,
    toNat_directionBit, BitVec.toNat_ofBool, BitVec.toNat_ofBool, Ref.statusNumber]
  omega

theorem statusWord_eq_statusNumber (s : State) : statusWord s = BitVec.ofNat 64 (Ref.statusNumber s) := by
  rw [← toNat_statusWord, BitVec.ofNat_toNat, BitVec.setWidth_eq]

/-! Reads. -/

/-- A register of 32 bits is read with 32 zeros above it (R33). -/
theorem setWidth_eq_zero_append (x : FieldElt) : x.setWidth 64 = 0#32 ++ x :=
  BitVec.setWidth_eq_append (by decide)

/-- The value of a register is the one the reference lists at its number (R53). -/
theorem readRegister_eq_readValue (r : Register) (s : State) :
    s.readRegister r = Ref.readValue s (registerOffset r / 8) := by
  cases r
  case BETA | FS_MX2 | FS_MX2X3 | FS_MX2X3X3 => exact setWidth_eq_zero_append _
  case STATUS => exact statusWord_eq_statusNumber s
  all_goals rfl

/-- Settles O7: the register at an aligned offset is read, and every other access is refused. -/
theorem hostReadReturnsRegister : Obligations.HostReadReturnsRegister := by
  intro s o n
  rw [step_issue_read, held_memRead rfl, memRead_eq]
  by_cases haccess : n = 8 ∧ o.val % 8 = 0
  · rw [if_pos haccess, if_neg (by omega), readRegister_eq_readValue, registerOffset_registerAt haccess.2]
    rfl
  · rw [if_neg haccess, if_pos (by omega)]
    rfl

/-! Writes. -/

/-- A write to a register locked during a message: refused exactly when PHASE is 1 (10_state.md R21). -/
theorem lockedWrite_eq (s t : State) :
    lockedWrite s t = if Ref.phaseNumber s.exp = 1 then .next (s.raiseError .locked) else .next t := by
  have hphase : ∀ e : Fin 5, phaseOf e = .absorb ↔ Ref.phaseNumber e = 1 := by decide
  simp only [lockedWrite, State.phase, hphase, refuse]

/-- A write to STATUS clears ERR when bit 7 is 1 (R54, 60_exceptions.md R205). -/
theorem writeRegister_STATUS (v : Word) (s : State) :
    writeRegister .STATUS v s = .next { s with err := s.err && !v.getLsbD 7 } := by
  cases h : v.getLsbD 7 with
  | true => simp only [writeRegister, h, if_true, Bool.not_true, Bool.and_false]
  | false => simp only [writeRegister, h, Bool.false_eq_true, if_false, Bool.not_false, Bool.and_true]

/-- Settles O8: by the register at an aligned offset; every other access is refused. -/
theorem hostWriteStoresOrRefuses : Obligations.HostWriteStoresOrRefuses := by
  intro s o n v
  rw [step_issue_write, held_memWrite rfl]
  by_cases haccess : n = 8 ∧ o.val % 8 = 0
  · rw [memWrite_accepted haccess, if_neg (by omega), ← registerOffset_registerAt haccess.2]
    cases registerAt o
    case KEY0 | KEY1 | NONCE =>
      simp only [writeRegister, lockedWrite_eq, registerOffset, Nat.zero_le, Nat.reduceLeDiff, true_and]
      rfl
    case STATUS => exact writeRegister_STATUS _ _
    -- The data registers store, CMD dispatches and the others are read-only: each offset selects its branch.
    all_goals rfl
  · rw [memWrite_refused haccess, if_pos (by omega)]
    rfl

end Sys2Proof.Machine
end

section
/-! PROOF. The checks of a command word and their order (spec/30_encoding.md R71, R73, R74). -/

namespace Sys2Proof.Machine

/-! The fields of a word as numbers. -/

theorem toNat_opcOf (w : Word) : (opcOf w).toNat = Ref.opc w := by
  simp [opcOf, Ref.opc, BitVec.extractLsb'_toNat]

theorem toNat_argOf (w : Word) : (argOf w).toNat = Ref.arg w := by
  simp [argOf, Ref.arg, BitVec.extractLsb'_toNat, Nat.shiftRight_eq_div_pow]

/-- RSVD reaches the top of the word, so nothing is cut off above it (R71). -/
theorem toNat_rsvdOf (w : Word) : (rsvdOf w).toNat = Ref.rsvd w := by
  have hw := w.isLt
  rw [rsvdOf, BitVec.extractLsb'_toNat, Nat.shiftRight_eq_div_pow, Ref.rsvd]
  omega

theorem argOf_eq_zero_iff (w : Word) : argOf w = 0 ↔ Ref.arg w = 0 := by
  rw [← toNat_argOf, BitVec.toNat_eq]
  rfl

theorem rsvdOf_eq_zero_iff (w : Word) : rsvdOf w = 0 ↔ Ref.rsvd w = 0 := by
  rw [← toNat_rsvdOf, BitVec.toNat_eq]
  rfl

/-! The opcode map against R74's lists. -/

/-- What R74 says of an opcode, by its row of the opcode map: whether it is assigned, whether it takes an argument, and
then which arguments are legal. -/
def RowAgrees (o : Nat) : Option OpcodeRow → Prop
  | none => Ref.unassigned o = true
  | some (.plain _) => Ref.unassigned o = false ∧ Ref.takesArg o = false
  | some (.withArg mk) =>
    Ref.unassigned o = false ∧ Ref.takesArg o = true ∧ ∀ a : Arg, (mk a).wellFormed = Ref.legalArg o a.toNat

/-- The map has a row exactly for the opcodes outside the unassigned ranges, with the legal arguments R74 gives it. -/
theorem opcodeRow_agrees (o : BitVec 8) : RowAgrees o.toNat (opcodeRow o) := by
  have ho := o.isLt
  unfold opcodeRow
  split
  -- The rows with an argument: NIB_RD, NIB_WR, GF_OPER, ROUND and KS_RK.
  case h_3 h | h_4 h | h_15 h | h_17 h => rw [h]; exact ⟨rfl, rfl, fun _ => rfl⟩
  case h_8 h => rw [h]; exact ⟨rfl, rfl, fun _ => Bool.decide_and _ _⟩
  -- No row: an opcode other than the 24 of R73 lies in one of the unassigned ranges.
  case h_25 =>
    simp only [RowAgrees, Ref.unassigned, Bool.or_eq_true, Bool.and_eq_true, decide_eq_true_eq]
    simp only [imp_false] at *
    omega
  all_goals rename_i h; rw [h]; exact ⟨rfl, rfl⟩

/-! `decode` row by row. -/

theorem decode_of_unassigned {w : Word} (hrow : opcodeRow (opcOf w) = none) : decode w = .error .illegalOpcode := by
  simp only [decode, hrow]

theorem decode_of_plain {w : Word} {i : Instr} (hrow : opcodeRow (opcOf w) = some (.plain i)) :
    decode w = if Ref.rsvd w ≠ 0 ∨ Ref.arg w ≠ 0 then .error .reservedBits else .ok i := by
  simp only [decode, hrow, ne_eq, rsvdOf_eq_zero_iff, argOf_eq_zero_iff]

theorem decode_of_withArg {w : Word} {mk : Arg → Instr} (hrow : opcodeRow (opcOf w) = some (.withArg mk)) :
    decode w = if Ref.rsvd w ≠ 0 then .error .reservedBits
      else if (mk (argOf w)).wellFormed then .ok (mk (argOf w)) else .error .argRange := by
  simp only [decode, hrow, ne_eq, rsvdOf_eq_zero_iff]

/-- The three checks of R74, in their order, on the fields as numbers; a word that passes them is a command. -/
theorem decode_checks (w : Word) :
    if Ref.unassigned (Ref.opc w) then decode w = .error .illegalOpcode
    else if Ref.rsvd w ≠ 0 ∨ (¬ Ref.takesArg (Ref.opc w) ∧ Ref.arg w ≠ 0) then decode w = .error .reservedBits
    else if Ref.takesArg (Ref.opc w) ∧ ¬ Ref.legalArg (Ref.opc w) (Ref.arg w) then decode w = .error .argRange
    else ∃ i, decode w = .ok i := by
  have hagrees := opcodeRow_agrees (opcOf w)
  rw [toNat_opcOf] at hagrees
  match hrow : opcodeRow (opcOf w) with
  | none =>
    have hunassigned : Ref.unassigned (Ref.opc w) = true := by rwa [hrow] at hagrees
    rw [if_pos hunassigned]
    exact decode_of_unassigned hrow
  | some (.plain i) =>
    rw [hrow] at hagrees
    obtain ⟨hassigned, hplain⟩ := hagrees
    rw [decode_of_plain hrow]
    by_cases hbits : Ref.rsvd w ≠ 0 ∨ Ref.arg w ≠ 0 <;> simp [hassigned, hplain, hbits]
  | some (.withArg mk) =>
    rw [hrow] at hagrees
    obtain ⟨hassigned, htakes, hlegal⟩ := hagrees
    have hrange : (mk (argOf w)).wellFormed = Ref.legalArg (Ref.opc w) (Ref.arg w) := by
      rw [hlegal, toNat_argOf]
    rw [decode_of_withArg hrow, hrange]
    by_cases hbits : Ref.rsvd w ≠ 0
    · simp [hassigned, hbits]
    · cases hcheck : Ref.legalArg (Ref.opc w) (Ref.arg w) <;> simp [hassigned, htakes, hbits]

/-- Settles O3: `dispatch` records the code of the check that fails first, and performs the command where none does. -/
theorem commandWordsCheckedInOrder : Obligations.CommandWordsCheckedInOrder := by
  intro w s
  have hchecks := decode_checks w
  split_ifs at hchecks ⊢
  · exact dispatch_of_error hchecks s
  · exact dispatch_of_error hchecks s
  · exact dispatch_of_error hchecks s
  · obtain ⟨i, hi⟩ := hchecks
    exact ⟨i, hi, dispatch_of_ok hi s⟩

end Sys2Proof.Machine
end

section
/-! PROOF. The nibble primitives: their functions, their laws and their two commands (spec/40_nibble.md R100 to R104). -/

namespace Sys2Proof.Machine

/-! The nibble functions. -/

/-- The model's nibble is the bit field the rules name (R100, 00_scope.md R7). -/
theorem nib_eq_cells (b : Block) (p : Fin 16) : nib b p = Ref.cells b p := by
  ext k hk
  have hplace : 60 - 4 * p.val + k = 4 * (15 - p.val) + k := by omega
  rw [← BitVec.getLsbD_eq_getElem, nib_getLsbD _ _ _ hk, Ref.cells, BitVec.getElem_extractLsb', hplace]

/-- A nibble write, read back position by position (R101): the bits of nibble `q` lie in the place written exactly
when `q` is `p`. -/
theorem nib_setnib (b : Block) (p q : Fin 16) (v : Nibble) :
    nib (setnib b p v) q = if q = p then v else nib b q := by
  ext k hk
  have hplace : (4 * (15 - q.val) + k) / 4 = 15 - q.val := by omega
  rw [← BitVec.getLsbD_eq_getElem, nib_getLsbD _ _ _ hk, setnib_getLsbD _ _ _ _ (by omega), hplace]
  by_cases hq : q = p
  · subst hq
    rw [if_pos rfl, if_pos rfl, Nat.add_sub_cancel_left, BitVec.getLsbD_eq_getElem]
  · have hother : ¬ 15 - q.val = 15 - p.val := fun h => hq (Fin.ext (by omega))
    rw [if_neg hother, if_neg hq, ← nib_getLsbD _ _ _ hk, BitVec.getLsbD_eq_getElem]

/-- Writing back the nibble already there changes no position, so it changes nothing (R104). -/
theorem setnib_nib (b : Block) (p : Fin 16) : setnib b p (nib b p) = b := by
  refine eq_of_nib_eq fun q => ?_
  rw [nib_setnib]
  split_ifs with hq
  · rw [hq]
  · rfl

/-- Settles O20: reads after a write are `nib_setnib`, at the position written and at another one. -/
theorem nibbleRoundTrips : Obligations.NibbleRoundTrips := by
  intro b p q v
  refine ⟨?_, setnib_nib b p, fun hq => ?_⟩
  · rw [nib_setnib, if_pos rfl]
  · rw [nib_setnib, if_neg hq]

/-! The words of a command with an argument. -/

/-- A row of the opcode map whose commands are well-formed exactly for ARG in `lo..hi` gives the words R74 lists. -/
theorem argEncoding_of_row {o lo hi : Nat} {mk : Arg → Instr}
    (hrow : opcodeRow (BitVec.ofNat 8 o) = some (.withArg mk))
    (hlegal : ∀ a : Arg, (mk a).wellFormed = true ↔ lo ≤ a.toNat ∧ a.toNat ≤ hi) : Ref.argEncoding o lo hi mk := by
  intro w hw
  have hopc : opcOf w = BitVec.ofNat 8 o := by rw [← hw, ← toNat_opcOf, BitVec.ofNat_toNat, BitVec.setWidth_eq]
  have harg : argOf w = BitVec.ofNat 8 (Ref.arg w) := by rw [← toNat_argOf, BitVec.ofNat_toNat, BitVec.setWidth_eq]
  rw [decode_of_withArg (hopc ▸ hrow), ← harg]
  simp only [hlegal, toNat_argOf]

/-! The two commands. -/

/-- A legal position is found by its value (R102, R103). -/
theorem nibblePos?_of_le {p : Arg} (hp : p.toNat ≤ 15) : nibblePos? p = some ⟨p.toNat, Nat.lt_succ_of_le hp⟩ :=
  nibblePos?_eq_some.2 rfl

/-- There is no other position (R102, R103). -/
theorem nibblePos?_of_not_le {p : Arg} (hp : ¬ p.toNat ≤ 15) : nibblePos? p = none :=
  nibblePos?_eq_none.2 (Nat.lt_of_not_le hp)

theorem exec_nibRd_of_le {p : Arg} (hp : p.toNat ≤ 15) (s : State) : exec (.nibRd p) s =
    accept (s.setRes ((nib s.opa ⟨p.toNat, Nat.lt_succ_of_le hp⟩).setWidth 64)) := by
  simp only [exec, execNibRd, nibblePos?_of_le hp]

theorem exec_nibRd_of_not_le {p : Arg} (hp : ¬ p.toNat ≤ 15) (s : State) :
    exec (.nibRd p) s = refuse .argRange s := by
  simp only [exec, execNibRd, nibblePos?_of_not_le hp]

theorem exec_nibWr_of_le {p : Arg} (hp : p.toNat ≤ 15) (s : State) : exec (.nibWr p) s =
    accept (s.setRes (setnib s.opa ⟨p.toNat, Nat.lt_succ_of_le hp⟩ s.opbNibble)) := by
  simp only [exec, execNibWr, nibblePos?_of_le hp]

theorem exec_nibWr_of_not_le {p : Arg} (hp : ¬ p.toNat ≤ 15) (s : State) :
    exec (.nibWr p) s = refuse .argRange s := by
  simp only [exec, execNibWr, nibblePos?_of_not_le hp]

/-- The 4-bit result, zero-extended to RES (R102). -/
theorem nib_setWidth_eq_zero_append (b : Block) (p : Fin 16) : (nib b p).setWidth 64 = 0#60 ++ Ref.cells b p := by
  rw [nib_eq_cells]
  exact BitVec.setWidth_eq_append (by decide)

/-- Settles O18: by whether ARG is a position. -/
theorem nibRdReadsNibble : Obligations.NibRdReadsNibble := by
  refine ⟨argEncoding_of_row rfl (by simp [Instr.wellFormed]), fun s p => ?_⟩
  by_cases hp : p.toNat ≤ 15
  · rw [if_pos hp, exec_nibRd_of_le hp, nib_setWidth_eq_zero_append]
    rfl
  · rw [if_neg hp, exec_nibRd_of_not_le hp]
    rfl

/-- Settles O19: the block is `setnib` of OPA, whose nibbles `nib_setnib` gives. -/
theorem nibWrReplacesNibble : Obligations.NibWrReplacesNibble := by
  refine ⟨argEncoding_of_row rfl (by simp [Instr.wellFormed]), fun s p => ?_⟩
  by_cases hp : p.toNat ≤ 15
  · rw [if_pos hp]
    refine ⟨setnib s.opa ⟨p.toNat, Nat.lt_succ_of_le hp⟩ s.opbNibble, exec_nibWr_of_le hp s, fun q => ?_⟩
    rw [← nib_eq_cells, ← nib_eq_cells, nib_setnib]
    simp only [Fin.ext_iff, State.opbNibble]
  · rw [if_neg hp, exec_nibWr_of_not_le hp]
    rfl

end Sys2Proof.Machine
end

section
/-! PROOF. The 32-bit kernel: its arithmetic, its power sequence and its five commands (spec/41_field.md R112 to R119). -/

namespace Sys2Proof.Machine

/-! The words of a command without an argument. -/

/-- ARG and RSVD together are bits 63:8 of the word (30_encoding.md R71). -/
theorem rsvd_or_arg_ne_zero_iff (w : Word) : Ref.rsvd w ≠ 0 ∨ Ref.arg w ≠ 0 ↔ ¬ w.toNat / 256 = 0 := by
  simp only [Ref.rsvd, Ref.arg]
  omega

/-- A row of the opcode map for a command without an argument gives the words R74 lists. -/
theorem plainEncoding_of_row {o : Nat} {i : Instr} (hrow : opcodeRow (BitVec.ofNat 8 o) = some (.plain i)) :
    Ref.plainEncoding o i := by
  intro w hw
  have hopc : opcOf w = BitVec.ofNat 8 o := by rw [← hw, ← toNat_opcOf, BitVec.ofNat_toNat, BitVec.setWidth_eq]
  rw [decode_of_plain (hopc ▸ hrow)]
  simp only [rsvd_or_arg_ne_zero_iff, ite_not]

/-! The kernel as arithmetic on numbers. -/

/-- Bit 31 is set exactly when twice the number no longer fits in 32 bits (R112). -/
theorem getLsbD_31_iff (a : FieldElt) : a.getLsbD 31 = true ↔ ¬ a.toNat < 2 ^ 31 := by
  have hmsb : a.msb = a.getLsbD 31 := BitVec.msb_eq_getLsbD_last a
  rw [← hmsb, BitVec.msb_eq_toNat, decide_eq_true_eq, ge_iff_le, Nat.not_lt]

/-- The shift drops what exceeds 32 bits: twice the number, less 2 ^ 32 when bit 31 was set (R112). -/
theorem shiftLeft_one_eq (a : FieldElt) :
    a <<< 1 = if a.toNat < 2 ^ 31 then BitVec.ofNat 32 (2 * a.toNat) else BitVec.ofNat 32 (2 * a.toNat - 2 ^ 32) := by
  have ha := a.isLt
  apply BitVec.eq_of_toNat_eq
  split_ifs <;> simp only [BitVec.toNat_shiftLeft, BitVec.toNat_ofNat, Nat.shiftLeft_eq] <;> omega

/-- The shift and the reduction are the doubling of R112. -/
theorem gdoble_eq_double (a : FieldElt) : gdoble a = Ref.double a := by
  rw [gdoble, Ref.double, shiftLeft_one_eq]
  by_cases ha : a.toNat < 2 ^ 31
  · rw [if_neg fun h => (getLsbD_31_iff a).1 h ha, if_pos ha, if_pos ha]
  · rw [if_pos ((getLsbD_31_iff a).2 ha), if_neg ha, if_neg ha]
    rfl

theorem gtriple_eq_triple (a : FieldElt) : gtriple a = Ref.triple a := by
  rw [gtriple, Ref.triple, gdoble_eq_double]

/-! The power sequence. -/

/-- The place of an index in the sequence, 1 to 4 (R114). -/
def OperIndex.number : OperIndex → Nat
  | .one => 1
  | .two => 2
  | .three => 3
  | .four => 4

theorem operIndex?_eq_some {i : Arg} {k : OperIndex} : operIndex? i = some k ↔ i.toNat = k.number := by
  revert i; cases k <;> decide

/-- A step of the sequence is the step R114 gives for its number, whatever base it is handed. -/
theorem goper_eq_operStep (k : OperIndex) (b : FieldElt) (fs : FieldState) :
    goper k b fs = Ref.operStep k.number fs := by
  cases k <;> simp only [goper, gtriple_eq_triple, gdoble_eq_double] <;> rfl

/-! The commands. -/

theorem exec_gfOper_of_none {i : Arg} (hi : operIndex? i = none) (s : State) :
    exec (.gfOper i) s = refuse .argRange s := by
  simp only [exec, execGfOper, hi]

theorem exec_gfOper_of_some {i : Arg} {k : OperIndex} (hi : operIndex? i = some k) (s : State) :
    exec (.gfOper i) s = if s.phase = .absorb then refuse .msgBusy s
      else accept ((s.setFs (goper k 0 s.fs).2).setRes ((goper k 0 s.fs).1.setWidth 64)) := by
  simp only [exec, execGfOper, hi]

/-- Settles O21: the XOR of the low halves, zero-extended. -/
theorem gfAddIsXor : Obligations.GfAddIsXor := by
  refine ⟨plainEncoding_of_row rfl, fun s => ?_⟩
  rw [← setWidth_eq_zero_append]
  rfl

/-- Settles O22: the doubling of R112, zero-extended. -/
theorem gfDblShiftsAndReduces : Obligations.GfDblShiftsAndReduces := by
  refine ⟨plainEncoding_of_row rfl, fun s => ?_⟩
  rw [← setWidth_eq_zero_append, ← gdoble_eq_double]
  rfl

/-- Settles O23: the tripling of R113, zero-extended. -/
theorem gfTplAddsTheDouble : Obligations.GfTplAddsTheDouble := by
  refine ⟨plainEncoding_of_row rfl, fun s => ?_⟩
  rw [← setWidth_eq_zero_append, ← gtriple_eq_triple]
  rfl

/-- Settles O24: by whether ARG is an index of the sequence, then by the phase. -/
theorem gfOperStepsTheSequence : Obligations.GfOperStepsTheSequence := by
  refine ⟨argEncoding_of_row rfl (by simp [Instr.wellFormed]), fun s i => ?_⟩
  simp only [← operIndex?_eq_none, ← phase_eq_absorb_iff]
  cases hi : operIndex? i with
  | none =>
    rw [if_pos rfl, exec_gfOper_of_none hi]
    rfl
  | some k =>
    rw [if_neg (Option.some_ne_none k), exec_gfOper_of_some hi, operIndex?_eq_some.1 hi, goper_eq_operStep,
      setWidth_eq_zero_append]
    rfl

/-- Settles O25: by the phase. -/
theorem gfSeedLoadsFieldState : Obligations.GfSeedLoadsFieldState := by
  refine ⟨plainEncoding_of_row rfl, fun s => ?_⟩
  simp only [← phase_eq_absorb_iff]
  rfl

end Sys2Proof.Machine
end

section
/-! PROOF. The round primitives on the cells of a block, and their six commands (spec/42_round.md R130 to R140; the
round key: spec/43_keyschedule.md R152). -/

namespace Sys2Proof.Machine

/-! Blocks as cells. -/

/-- The cells of a built block are the function it was built from. -/
theorem cells_buildBlock (f : Fin 16 → Nibble) : Ref.cells (buildBlock f) = f :=
  funext fun p => (nib_eq_cells _ p).symm.trans (nib_buildBlock f p)

theorem cells_xor (a b : Block) : Ref.cells (a ^^^ b) = Ref.xor (Ref.cells a) (Ref.cells b) :=
  funext fun _ => BitVec.extractLsb'_xor

/-! The packed tables against the unpacked ones. -/

/-- `Sb0[v]` is the S-box's output for `v` (R130). -/
theorem nib_sb0 : ∀ v : Nibble, nib sb0 (nibbleIndex v) = Ref.sbox v := by decide

/-- The packed nibble at a position is its source (R131). -/
theorem nib_shuffleP : ∀ p : Fin 16, nibbleIndex (nib shuffleP p) = Ref.shuffleTable.getD p.val 0 := by decide

theorem nib_shufflePInv : ∀ p : Fin 16, nibbleIndex (nib shufflePInv p) = Ref.shuffleInvTable.getD p.val 0 := by
  decide

theorem toNat_roundConstants : ∀ i : Fin 15, roundConstants[i.val].toNat = Ref.constantTable.getD i.val 0 := by
  decide

/-! SubCell and ShuffleCell. -/

theorem cells_subCell (b : Block) : Ref.cells (subCell b) = Ref.subCell (Ref.cells b) := by
  rw [subCell, cells_buildBlock]
  funext p
  rw [nib_sb0, nib_eq_cells, Ref.subCell]

theorem cells_shuffleCell_forward (b : Block) :
    Ref.cells (shuffleCell b false) = Ref.shuffle Ref.shuffleTable (Ref.cells b) := by
  refine (cells_buildBlock _).trans (funext fun p => ?_)
  rw [if_neg Bool.false_ne_true, nib_shuffleP, nib_eq_cells, Ref.shuffle]

theorem cells_shuffleCell_inverse (b : Block) :
    Ref.cells (shuffleCell b true) = Ref.shuffle Ref.shuffleInvTable (Ref.cells b) := by
  refine (cells_buildBlock _).trans (funext fun p => ?_)
  rw [if_pos rfl, nib_shufflePInv, nib_eq_cells, Ref.shuffle]

/-! MixColumn. -/

/-- Every position is a place in a column (R132). -/
theorem columnPos_div_mod (p : Fin 16) : columnPos ⟨p.val / 4, by omega⟩ ⟨p.val % 4, by omega⟩ = p :=
  Fin.ext (Nat.div_add_mod p.val 4)

/-- Going `d` places further around the column, places counted modulo 4, leads to the mate at distance `d` (R132). -/
theorem columnPos_add (p : Fin 16) (d : Fin 4) :
    columnPos ⟨p.val / 4, by omega⟩ (⟨p.val % 4, by omega⟩ + d) = Ref.columnMate p d.val := by
  refine Fin.ext ?_
  simp only [columnPos, Ref.columnMate, Fin.val_add]
  omega

/-- Adding one nibble of a column to the sum of all four cancels it, which leaves the other three (R132). -/
theorem columnParity_xor (b : Block) (c k : Fin 4) :
    columnParity b c ^^^ nib b (columnPos c k)
      = nib b (columnPos c (k + 1)) ^^^ nib b (columnPos c (k + 2)) ^^^ nib b (columnPos c (k + 3)) := by
  have hsum : columnParity b c = nib b (columnPos c (k + 1)) ^^^ nib b (columnPos c (k + 2))
      ^^^ nib b (columnPos c (k + 3)) ^^^ nib b (columnPos c k) := by
    unfold columnParity
    match k with
    | 0 | 1 | 2 => simp only [Fin.reduceAdd]; ac_rfl
    | 3 => rfl
  rw [hsum, BitVec.xor_assoc, BitVec.xor_self, BitVec.xor_zero]

theorem cells_mixColumn (b : Block) : Ref.cells (mixColumn b) = Ref.mixColumn (Ref.cells b) := by
  rw [mixColumn, cells_buildBlock]
  funext p
  calc columnParity b ⟨p.val / 4, by omega⟩ ^^^ nib b p
    _ = columnParity b ⟨p.val / 4, by omega⟩
          ^^^ nib b (columnPos ⟨p.val / 4, by omega⟩ ⟨p.val % 4, by omega⟩) := by rw [columnPos_div_mod]
    _ = Ref.mixColumn (Ref.cells b) p := by
      rw [columnParity_xor]
      simp only [columnPos_add, nib_eq_cells]
      rfl

/-! The round key and the round. -/

/-- The lowest bit of a shifted constant, as a nibble, is the constant's bit (43_keyschedule.md R152). -/
theorem setWidth_ushiftRight_and_one (c : BitVec 16) (n : Nat) :
    ((c >>> n) &&& 1#16).setWidth 4 = if c.toNat.testBit n then 1 else 0 := by
  rw [BitVec.and_one_eq_setWidth_ofBool_getLsbD, BitVec.getLsbD_ushiftRight, Nat.add_zero, BitVec.testBit_toNat]
  cases c.getLsbD n <;> rfl

theorem cells_roundKey (k : Key) (i : Fin 15) : Ref.cells (roundKey k i) = Ref.roundKey k.k0 k.k1 i.val := by
  rw [roundKey, cells_buildBlock]
  funext j
  rw [nib_eq_cells, setWidth_ushiftRight_and_one, toNat_roundConstants, Ref.roundKey]

/-- A round is the four primitives in R134's order, cell by cell. -/
theorem cells_roundFn (k : Key) (i : Fin 15) (b : Block) :
    Ref.cells (roundFn k i b) = Ref.round k.k0 k.k1 i.val (Ref.cells b) := by
  rw [roundFn, keyAdd, cells_xor, cells_mixColumn, cells_shuffleCell_forward, cells_subCell, cells_roundKey, Ref.round]

/-! The commands. -/

theorem exec_round_of_none {i : Arg} (hi : roundIndex? i = none) (s : State) :
    exec (.round i) s = refuse .argRange s := by
  simp only [exec, execRound, hi]

theorem exec_round_of_some {i : Arg} {k : Fin 15} (hi : roundIndex? i = some k) (s : State) :
    exec (.round i) s = accept (s.setRes (roundFn s.key k s.opa)) := by
  simp only [exec, execRound, hi]

/-- Settles O28: RES is SubCell of OPA. -/
theorem subcellAppliesSbox : Obligations.SubcellAppliesSbox :=
  ⟨plainEncoding_of_row rfl, fun s => ⟨subCell s.opa, rfl, cells_subCell s.opa⟩⟩

/-- Settles O29: RES is ShuffleCell of OPA, forward. -/
theorem shuffleMovesNibbles : Obligations.ShuffleMovesNibbles :=
  ⟨plainEncoding_of_row rfl, fun s => ⟨shuffleCell s.opa false, rfl, cells_shuffleCell_forward s.opa⟩⟩

/-- Settles O30: RES is ShuffleCell of OPA, inverse. -/
theorem shuffleInvMovesNibbles : Obligations.ShuffleInvMovesNibbles :=
  ⟨plainEncoding_of_row rfl, fun s => ⟨shuffleCell s.opa true, rfl, cells_shuffleCell_inverse s.opa⟩⟩

/-- Settles O31: RES is MixColumn of OPA. -/
theorem mixcolXorsColumns : Obligations.MixcolXorsColumns :=
  ⟨plainEncoding_of_row rfl, fun s => ⟨mixColumn s.opa, rfl, cells_mixColumn s.opa⟩⟩

/-- Settles O32: KeyAdd is the XOR itself. -/
theorem keyaddXorsOperands : Obligations.KeyaddXorsOperands :=
  ⟨plainEncoding_of_row rfl, fun _ => rfl⟩

/-- Settles O33: by whether ARG is a round index. -/
theorem roundComposesPrimitives : Obligations.RoundComposesPrimitives := by
  refine ⟨argEncoding_of_row rfl (by simp [Instr.wellFormed]), fun s i => ?_⟩
  cases hi : roundIndex? i with
  | none =>
    have hrange : 15 ≤ i.toNat := roundIndex?_eq_none.1 hi
    rw [if_neg (by omega), exec_round_of_none hi]
    rfl
  | some k =>
    have hindex : i.toNat = k.val := roundIndex?_eq_some.1 hi
    rw [if_pos (by omega), hindex]
    exact ⟨roundFn s.key k s.opa, exec_round_of_some hi s, cells_roundFn s.key k s.opa⟩

end Sys2Proof.Machine
end

section
/-! PROOF. The two commands of the key schedule (spec/43_keyschedule.md R151 to R154). -/

namespace Sys2Proof.Machine

theorem exec_ksRk_of_none {i : Arg} (hi : roundIndex? i = none) (s : State) :
    exec (.ksRk i) s = refuse .argRange s := by
  simp only [exec, execKsRk, hi]

theorem exec_ksRk_of_some {i : Arg} {k : Fin 15} (hi : roundIndex? i = some k) (s : State) :
    exec (.ksRk i) s = accept (s.setRes (roundKey s.key k)) := by
  simp only [exec, execKsRk, hi]

/-- Settles O36: by whether ARG is a round index; the cells of the round key are `cells_roundKey`. -/
theorem ksRkGivesRoundKey : Obligations.KsRkGivesRoundKey := by
  refine ⟨argEncoding_of_row rfl (by simp [Instr.wellFormed]), fun s i => ?_⟩
  cases hi : roundIndex? i with
  | none =>
    have hrange : 15 ≤ i.toNat := roundIndex?_eq_none.1 hi
    rw [if_neg (by omega), exec_ksRk_of_none hi]
    rfl
  | some k =>
    have hindex : i.toNat = k.val := roundIndex?_eq_some.1 hi
    rw [if_pos (by omega), hindex]
    exact ⟨roundKey s.key k, exec_ksRk_of_some hi s, cells_roundKey s.key k⟩

/-- Settles O35: the whitening key is the XOR itself (R151). -/
theorem ksWkXorsKeyHalves : Obligations.KsWkXorsKeyHalves :=
  ⟨plainEncoding_of_row rfl, fun _ => rfl⟩

end Sys2Proof.Machine
end

section
/-! PROOF. The cipher on the cells of a block, and its command (spec/44_cipher.md R160, R161). -/

namespace Sys2Proof.Machine

/-- The rounds run in the order of their indices (R160). -/
theorem roundIndices_getElem : ∀ i : Fin 15, roundIndices[i.val]'i.isLt = i := by decide

/-- Running one round more is running the round of that number last. -/
theorem roundIndices_take_succ {n : Nat} (hn : n < 15) :
    roundIndices.take (n + 1) = roundIndices.take n ++ [⟨n, hn⟩] := by
  rw [List.take_succ_eq_append_getElem hn, roundIndices_getElem ⟨n, hn⟩]

/-- The state after the first `n` rounds, from the whitened block, by induction on `n`: each round is `cells_roundFn`. -/
theorem cells_foldl_roundFn (s : Block) (k : Key) {n : Nat} (hn : n ≤ 15) :
    Ref.cells ((roundIndices.take n).foldl (fun t i => roundFn k i t) (s ^^^ whiteningKey k))
      = Ref.rounds k.k0 k.k1 (Ref.cells s) n := by
  induction n with
  | zero => exact cells_xor s (whiteningKey k)
  | succ n ih => rw [roundIndices_take_succ hn, List.foldl_concat, cells_roundFn, ih (Nat.le_of_lt hn), Ref.rounds]

/-- Settles O38: the last SubCell and the final whitening after the state that the 15 rounds leave. -/
theorem cipherRefinesUnpackedTables : Obligations.CipherRefinesUnpackedTables := by
  intro s k
  have hrounds : Ref.cells (roundIndices.foldl (fun t i => roundFn k i t) (s ^^^ whiteningKey k))
      = Ref.rounds k.k0 k.k1 (Ref.cells s) 15 := cells_foldl_roundFn s k (Nat.le_refl 15)
  rw [midori, cells_xor, cells_subCell, hrounds, whiteningKey, Ref.midori]

/-- Settles O37: RES is the cipher of OPA under the key registers. -/
theorem midoriEncRunsCipher : Obligations.MidoriEncRunsCipher :=
  ⟨plainEncoding_of_row rfl, fun s => ⟨midori s.opa s.key, rfl, cipherRefinesUnpackedTables s.opa s.key⟩⟩

end Sys2Proof.Machine
end

section
/-! PROOF. The mask generator and the G-feedback as slices of their operand, and their two commands
(spec/45_mask_feedback.md R170 to R173). -/

namespace Sys2Proof.Machine

/-- The mask is all ones on the 32 bits the truncation keeps, so only the shift counts (R170). -/
theorem maskGen_eq_extractLsb' (y : Block) : maskGen y = y.extractLsb' 16 32 := by
  have hmask : (0xFFFFFFFF#64).setWidth 32 = BitVec.allOnes 32 := rfl
  rw [maskGen, BitVec.setWidth_and, hmask, BitVec.and_allOnes]
  rfl

/-- The shift leaves 16 zeros below and the 16-bit sum has 48 zeros above, so the OR is the concatenation (R171). -/
theorem mulGY_eq_feedback (y : Block) : mulGY y = Ref.feedback y := by
  have hshift : y <<< 16 = y.extractLsb' 0 48 ++ 0#16 := BitVec.shiftLeft_eq_concat_of_lt (by decide)
  have hsum (t : BitVec 16) : t.setWidth 64 = 0#48 ++ t := BitVec.setWidth_eq_append (by decide)
  rw [mulGY, Ref.feedback, hshift, hsum, BitVec.or_append, BitVec.or_zero, BitVec.zero_or]

/-- Settles O39: RES is the mask of OPA, zero-extended. -/
theorem maskgenTakesMiddleBits : Obligations.MaskgenTakesMiddleBits := by
  refine ⟨plainEncoding_of_row rfl, fun s => ?_⟩
  rw [← setWidth_eq_zero_append, ← maskGen_eq_extractLsb']
  rfl

/-- Settles O40: RES is the feedback of OPA. -/
theorem mulgyFoldsTopBits : Obligations.MulgyFoldsTopBits := by
  refine ⟨plainEncoding_of_row rfl, fun s => ?_⟩
  rw [← mulGY_eq_feedback]
  rfl

end Sys2Proof.Machine
end

section
/-! PROOF. The mode driver: the INIT commands, COFB_BLOCK, COFB_ABORT and the policy of the block counter
(spec/46_cofb.md R180 to R190). -/

namespace Sys2Proof.Machine

/-! Starting and clearing a message. -/

/-- INIT in either direction: Y is the cipher of NONCE, and BETA and FS are its mask (R181). -/
theorem accept_msgInit (d : Direction) (s : State) :
    ∃ y0 : Block, Ref.cells y0 = Ref.midori s.key0 s.key1 (Ref.cells s.nonce) ∧
      accept (msgInit d s) = .next { s with
        y := y0, beta := y0.extractLsb' 16 32,
        fs := { mx2 := y0.extractLsb' 16 32, mx2x3 := y0.extractLsb' 16 32, mx2x3x3 := y0.extractLsb' 16 32 },
        exp := 1, dir := d, dout := 0, doutValid := false, lastErr := .ok } := by
  refine ⟨midori s.nonce s.key, cipherRefinesUnpackedTables s.nonce s.key, ?_⟩
  rw [← maskGen_eq_extractLsb']
  rfl

/-- Settles O42: the opcode's row, and INIT in the encrypt direction. -/
theorem initEncStartsMessage : Obligations.InitEncStartsMessage :=
  ⟨plainEncoding_of_row rfl, accept_msgInit .encrypt⟩

/-- Settles O43: the opcode's row, and INIT in the decrypt direction. -/
theorem initDecStartsMessage : Obligations.InitDecStartsMessage :=
  ⟨plainEncoding_of_row rfl, accept_msgInit .decrypt⟩

/-- Settles O45: the writes of `clearMessage`, and OK recorded. -/
theorem abortClearsMessage : Obligations.AbortClearsMessage :=
  ⟨plainEncoding_of_row rfl, fun _ => rfl⟩

/-! The sequence index of a block. -/

/-- There is no index exactly at the two ends of the counter (R184). -/
theorem absorbIndex?_eq_none_iff_ends {e : Fin 5} : absorbIndex? e = none ↔ e = 0 ∨ e = 4 := by
  revert e; decide

/-- The index is the counter itself, and a message has no fourth step (R184). -/
theorem absorbIndex?_eq_some {e : Fin 5} {k : OperIndex} :
    absorbIndex? e = some k ↔ e.val = k.number ∧ k ≠ .four := by
  revert e; cases k <;> decide

/-- While a message is absorbed, the payload position is EXP 3 (R184). -/
theorem two_lt_iff_of_absorbIndex? {e : Fin 5} {k : OperIndex} (hk : absorbIndex? e = some k) : 2 < e ↔ e = 3 := by
  revert hk; revert e; cases k <;> decide

/-- While a message is absorbed, the counter is 1 to 3 and the next value is no wrap-around (R184). -/
theorem val_succ_of_absorbIndex? {e : Fin 5} {k : OperIndex} (hk : absorbIndex? e = some k) :
    (1 ≤ e.val ∧ e.val ≤ 3) ∧ (e + 1).val = e.val + 1 := by
  revert hk; revert e; cases k <;> decide

theorem exec_cofbBlock_of_none {s : State} (hk : absorbIndex? s.exp = none) :
    exec .cofbBlock s = refuse .seqError s := by
  simp only [exec, execCofbBlock, hk]

theorem exec_cofbBlock_of_some {s : State} {k : OperIndex} (hk : absorbIndex? s.exp = some k) :
    exec .cofbBlock s = accept (absorbBlock k s) := by
  simp only [exec, execCofbBlock, hk]

/-- At both ends of the counter only the error record changes (R184). -/
theorem exec_cofbBlock_of_ends {s : State} (hs : s.exp = 0 ∨ s.exp = 4) :
    exec .cofbBlock s = .next { s with lastErr := .seqError, err := true } :=
  exec_cofbBlock_of_none (absorbIndex?_eq_none_iff_ends.2 hs)

/-! What an absorbed block writes. -/

/-- The mask stands above 32 zeros in the cipher's input (R184). -/
theorem setWidth_shiftLeft_eq_append_zero (m : FieldElt) : m.setWidth 64 <<< 32 = m ++ 0#32 := by
  have hlow : (m.setWidth 64).extractLsb' 0 32 = m :=
    (BitVec.extractLsb'_setWidth_of_le (by decide)).trans BitVec.extractLsb'_eq_self
  rw [BitVec.shiftLeft_eq_concat_of_lt (by decide)]
  exact congrArg (· ++ 0#32) hlow

/-- The three terms of the cipher's input, in the order R184 adds them; at the payload a decrypted block counts as
`Y ^ DIN`. -/
theorem cipherInput_eq {s : State} (hpay : 2 < s.exp ↔ s.exp = 3) (m : FieldElt) :
    (m.setWidth 64 <<< 32) ^^^ blockBGY s = (m ++ 0#32) ^^^ Ref.feedback s.y
      ^^^ (if s.exp = 3 ∧ s.dir = .decrypt then s.y ^^^ s.din else s.din) := by
  simp only [setWidth_shiftLeft_eq_append_zero, blockBGY, mulGY_eq_feedback, hpay]
  split <;> ac_rfl

/-- Only the payload block has an output (R184, R185). -/
theorem blockOutput_eq {s : State} (hpay : 2 < s.exp ↔ s.exp = 3) :
    blockOutput s = { s with
      dout := if s.exp = 3 then s.y ^^^ s.din else s.dout, doutValid := decide (s.exp = 3) } := by
  by_cases h : s.exp = 3
  · rw [blockOutput, if_pos (hpay.2 h), if_pos h, decide_eq_true h]
    rfl
  · rw [blockOutput, if_neg (mt hpay.1 h), if_neg h, decide_eq_false h]
    rfl

theorem absorbBlock_dir (k : OperIndex) (s : State) : (absorbBlock k s).dir = s.dir := by
  have houtput : (blockOutput s).dir = s.dir := by
    unfold blockOutput
    split <;> rfl
  exact houtput

/-- Settles O44: by whether EXP is a sequence index. -/
theorem blockAbsorbsDin : Obligations.BlockAbsorbsDin := by
  refine ⟨plainEncoding_of_row rfl, fun s => ?_⟩
  cases hk : absorbIndex? s.exp with
  | none =>
    have hends := absorbIndex?_eq_none_iff_ends.1 hk
    rw [if_pos hends]
    exact exec_cofbBlock_of_ends hends
  | some k =>
    have hin : ¬ (s.exp = 0 ∨ s.exp = 4) := by simp [← absorbIndex?_eq_none_iff_ends, hk]
    have hpay := two_lt_iff_of_absorbIndex? hk
    rw [if_neg hin, exec_cofbBlock_of_some hk, (absorbIndex?_eq_some.1 hk).1, ← goper_eq_operStep k s.beta,
      ← cipherInput_eq hpay]
    refine ⟨_, cipherRefinesUnpackedTables _ s.key, ?_⟩
    simp only [absorbBlock, blockOutput_eq hpay]
    rfl

/-! The commands that leave the message alone. -/

/-- The commands of the mode and SRESET: no other command writes EXP or DIR (R180, 10_state.md R34). -/
def messageCommands : List Instr := [.sreset, .cofbInitEnc, .cofbInitDec, .cofbBlock, .cofbAbort]

/-- Every other command is refused, or writes RES and FS at most and records OK. -/
theorem exec_refuse_or_accept_setFs_setRes {i : Instr} (hi : i ∉ messageCommands) (s : State) :
    (∃ c, exec i s = refuse c s) ∨ ∃ fs v, exec i s = accept ((s.setFs fs).setRes v) := by
  cases i
  case sreset | cofbInitEnc | cofbInitDec | cofbBlock | cofbAbort => exact absurd (by decide) hi
  case nibRd p =>
    by_cases hp : p.toNat ≤ 15
    · exact .inr ⟨s.fs, _, exec_nibRd_of_le hp s⟩
    · exact .inl ⟨_, exec_nibRd_of_not_le hp s⟩
  case nibWr p =>
    by_cases hp : p.toNat ≤ 15
    · exact .inr ⟨s.fs, _, exec_nibWr_of_le hp s⟩
    · exact .inl ⟨_, exec_nibWr_of_not_le hp s⟩
  case gfOper i =>
    cases hk : operIndex? i with
    | none => exact .inl ⟨_, exec_gfOper_of_none hk s⟩
    | some k =>
      rw [exec_gfOper_of_some hk]
      split
      · exact .inl ⟨_, rfl⟩
      · exact .inr ⟨_, _, rfl⟩
  case gfSeed =>
    simp only [exec, execGfSeed]
    split
    · exact .inl ⟨_, rfl⟩
    · exact .inr ⟨.splat s.opaField, s.res, rfl⟩
  case round i =>
    cases hk : roundIndex? i with
    | none => exact .inl ⟨_, exec_round_of_none hk s⟩
    | some k => exact .inr ⟨s.fs, _, exec_round_of_some hk s⟩
  case ksRk i =>
    cases hk : roundIndex? i with
    | none => exact .inl ⟨_, exec_ksRk_of_none hk s⟩
    | some k => exact .inr ⟨s.fs, _, exec_ksRk_of_some hk s⟩
  case nop => exact .inr ⟨s.fs, s.res, rfl⟩
  -- The primitive commands without an argument write RES.
  all_goals exact .inr ⟨s.fs, _, rfl⟩

/-! The counter and the direction after a command. -/

theorem counterAfter_directionAfter_of_notMem {i : Instr} (hi : i ∉ messageCommands) (e : Nat) (d : Direction) :
    Ref.counterAfter i e = e ∧ Ref.directionAfter i d = d := by
  simp only [messageCommands, List.mem_cons, List.not_mem_nil, or_false, not_or] at hi
  simp [Ref.counterAfter, Ref.directionAfter, hi]

/-- A command that is none of the five leaves both, refused or accepted (R180). -/
theorem exec_exp_dir_of_notMem {i : Instr} (hi : i ∉ messageCommands) (s : State) :
    ∃ t, exec i s = .next t ∧ t.exp.val = Ref.counterAfter i s.exp.val ∧ t.dir = Ref.directionAfter i s.dir := by
  obtain ⟨hcounter, hdirection⟩ := counterAfter_directionAfter_of_notMem hi s.exp.val s.dir
  rw [hcounter, hdirection]
  obtain ⟨c, hc⟩ | ⟨fs, v, hv⟩ := exec_refuse_or_accept_setFs_setRes hi s
  · exact ⟨_, hc, rfl, rfl⟩
  · exact ⟨_, hv, rfl, rfl⟩

theorem counterAfter_cofbBlock (e : Nat) :
    Ref.counterAfter .cofbBlock e = if 1 ≤ e ∧ e ≤ 3 then e + 1 else e := by
  simp [Ref.counterAfter]

/-- COFB_BLOCK advances EXP exactly when it is accepted, and leaves DIR (R184, R188). -/
theorem exec_cofbBlock_exp_dir (s : State) :
    ∃ t, exec .cofbBlock s = .next t ∧ t.exp.val = Ref.counterAfter .cofbBlock s.exp.val ∧ t.dir = s.dir := by
  rw [counterAfter_cofbBlock]
  cases hk : absorbIndex? s.exp with
  | none =>
    have hends : ¬ (1 ≤ s.exp.val ∧ s.exp.val ≤ 3) := by
      have := absorbIndex?_eq_none_iff_ends.1 hk
      omega
    exact ⟨_, exec_cofbBlock_of_none hk, (if_neg hends).symm, rfl⟩
  | some k =>
    obtain ⟨hrange, hsucc⟩ := val_succ_of_absorbIndex? hk
    exact ⟨_, exec_cofbBlock_of_some hk, hsucc.trans (if_pos hrange).symm, absorbBlock_dir k s⟩

/-- Every command leaves the counter and the direction the reference gives (R180, R188, 10_state.md R34). -/
theorem exec_exp_dir (i : Instr) (s : State) :
    ∃ t, exec i s = .next t ∧ t.exp.val = Ref.counterAfter i s.exp.val ∧ t.dir = Ref.directionAfter i s.dir := by
  cases i
  case sreset | cofbInitEnc | cofbInitDec | cofbAbort => exact ⟨_, rfl, rfl, rfl⟩
  case cofbBlock => exact exec_cofbBlock_exp_dir s
  all_goals exact exec_exp_dir_of_notMem (by simp [messageCommands]) s

/-! The counter across the other accesses. -/

/-- A write to a lockable register is refused, or stores. -/
theorem lockedWrite_next {s s' t : State} (h : lockedWrite s s' = .next t) : t = s.raiseError .locked ∨ t = s' := by
  unfold lockedWrite at h
  split at h
  · exact .inl (refuse_next_iff.1 h)
  · cases h
    exact .inr rfl

/-- A write to any register but CMD leaves EXP (R180). -/
theorem writeRegister_exp {r : Register} (hr : r ≠ .CMD) {v : Word} {s t : State}
    (h : writeRegister r v s = .next t) : t.exp = s.exp := by
  cases r
  case CMD => exact absurd rfl hr
  case KEY0 | KEY1 | NONCE => obtain rfl | rfl := lockedWrite_next h <;> rfl
  case STATUS =>
    rw [writeRegister_STATUS] at h
    cases h
    rfl
  -- The other registers store or are read-only.
  all_goals
    cases h
    rfl

/-- A read leaves EXP (R180). -/
theorem memRead_exp {o : Fin 128} {n : Nat} {s t : State} (h : memRead o n s = .next t) : t.exp = s.exp := by
  rw [memRead_eq] at h
  cases h
  split <;> rfl

/-- A write that is no command leaves EXP (R180). -/
theorem memWrite_exp {o : Fin 128} {n : Nat} (hcmd : ¬ (o.val = 0x78 ∧ n = 8)) {v : Word} {s t : State}
    (h : memWrite o n v s = .next t) : t.exp = s.exp := by
  by_cases haccess : n = 8 ∧ o.val % 8 = 0
  · rw [memWrite_accepted haccess] at h
    refine writeRegister_exp (fun hr => hcmd ⟨?_, haccess.1⟩) h
    rw [← registerOffset_registerAt haccess.2, hr]
    rfl
  · rw [memWrite_refused haccess] at h
    cases h
    rfl

/-- A host access other than a command leaves EXP, wherever it goes (R180, 20_memory.md R50). -/
theorem step_issue_exp {s t : State} {e : BusEvent} (hassert : e ≠ .resetAssert) (hrelease : e ≠ .resetRelease)
    (hcmd : ∀ v, e ≠ .write (128 * s.window + 0x78) 8 v) (h : step (s.issue e) = .next t) : t.exp = s.exp := by
  cases e with
  | resetAssert => exact absurd rfl hassert
  | resetRelease => exact absurd rfl hrelease
  | read a n =>
    cases ho : s.windowOffset? a with
    | none =>
      rw [step_issue_outside ((windowOffset?_eq_none_iff s a).1 ho) (.inl ⟨n, rfl⟩)] at h
      cases h
      rfl
    | some o =>
      rw [windowOffset?_eq_some ho, step_issue_read, held_memRead rfl] at h
      exact (memRead_exp h).trans rfl
  | write a n v =>
    cases ho : s.windowOffset? a with
    | none =>
      rw [step_issue_outside ((windowOffset?_eq_none_iff s a).1 ho) (.inr ⟨n, v, rfl⟩)] at h
      cases h
      rfl
    | some o =>
      obtain rfl := windowOffset?_eq_some ho
      rw [step_issue_write, held_memWrite rfl] at h
      refine (memWrite_exp (fun ⟨hoffset, hsize⟩ => hcmd v ?_) h).trans rfl
      rw [hoffset, hsize]

/-- Settles O46: each clause is the lemma for its kind of event; a refused word changes the error record alone. -/
theorem counterPolicy : Obligations.CounterPolicy :=
  ⟨exec_exp_dir, fun _ => exec_cofbBlock_of_ends, fun _ _ _ => step_issue_exp,
    fun s _ _ hrefused => ⟨_, dispatch_of_error hrefused s, rfl⟩⟩

end Sys2Proof.Machine
end

section
/-! PROOF. The system commands NOP and SRESET (spec/47_system.md R195, R196). -/

namespace Sys2Proof.Machine

/-- Settles O16: the opcode's row, and an accepted command without writes of its own. -/
theorem nopOnlyClearsLastErr : Obligations.NopOnlyClearsLastErr :=
  ⟨plainEncoding_of_row rfl, fun _ => rfl⟩

/-- The registers at their reset values are those of the reset state; the rest is no register (R196, log entry 7). -/
theorem resetRegisters_eq_reset (s : State) :
    s.resetRegisters = { State.reset with
      window := s.window, pending := s.pending, readData := s.readData, resetAsserted := s.resetAsserted } := rfl

/-- LAST_ERR is OK after the reset already, so accepting the command records nothing new. -/
theorem recordOk_resetRegisters (s : State) : s.resetRegisters.recordOk = s.resetRegisters := rfl

/-- Settles O17: the opcode's row, and the reset state of `resetRegisters_eq_reset`. -/
theorem sresetGivesResetState : Obligations.SresetGivesResetState := by
  refine ⟨plainEncoding_of_row rfl, fun s => ?_⟩
  have hexec : exec .sreset s = .next s.resetRegisters.recordOk := rfl
  rw [hexec, recordOk_resetRegisters, resetRegisters_eq_reset]

end Sys2Proof.Machine
end

section
/-! PROOF. Decoding and encoding agree, word by word and command by command (spec/30_encoding.md R71, R73, R74, R78). -/

namespace Sys2Proof.Machine

/-! The fields of a command word. -/

/-- Words with the same three fields are equal: OPC, ARG and RSVD cover all 64 bits (R71). -/
theorem word_eq_of_fields {v w : Word} (hopc : opcOf v = opcOf w) (harg : argOf v = argOf w)
    (hrsvd : rsvdOf v = rsvdOf w) : v = w := by
  apply BitVec.eq_of_toNat_eq
  have hopc' : Ref.opc v = Ref.opc w := by rw [← toNat_opcOf, ← toNat_opcOf, hopc]
  have harg' : Ref.arg v = Ref.arg w := by rw [← toNat_argOf, ← toNat_argOf, harg]
  have hrsvd' : Ref.rsvd v = Ref.rsvd w := by rw [← toNat_rsvdOf, ← toNat_rsvdOf, hrsvd]
  simp only [Ref.opc, Ref.arg, Ref.rsvd] at hopc' harg' hrsvd'
  omega

/-- A word is a command's encoding exactly when its fields are the command's (R71, R78). -/
theorem encode_eq_iff {i : Instr} {w : Word} :
    encode i = w ↔ i.opcode = opcOf w ∧ i.arg = argOf w ∧ rsvdOf w = 0 := by
  obtain ⟨hopc, harg, hrsvd⟩ := commandWord_fields i.opcode i.arg
  constructor
  · rintro rfl
    exact ⟨hopc.symm, harg.symm, hrsvd⟩
  · rintro ⟨hopc', harg', hrsvd'⟩
    exact word_eq_of_fields (hopc.trans hopc') (harg.trans harg') (hrsvd.trans hrsvd'.symm)

/-! The opcode map against the commands' own fields. -/

/-- What a row says of its commands: their opcode, and the argument each one carries. -/
def RowCarries (o : BitVec 8) : Option OpcodeRow → Prop
  | none => True
  | some (.plain i) => i.opcode = o ∧ i.arg = 0 ∧ i.wellFormed = true
  | some (.withArg mk) => ∀ a : Arg, (mk a).opcode = o ∧ (mk a).arg = a

/-- Each row of the map stands at its commands' opcode (R73). -/
theorem opcodeRow_carries (o : BitVec 8) : RowCarries o (opcodeRow o) := by
  unfold opcodeRow
  split
  case h_3 h | h_4 h | h_8 h | h_15 h | h_17 h => exact fun _ => ⟨BitVec.eq_of_toNat_eq h.symm, rfl⟩
  case h_25 => trivial
  all_goals rename_i h; exact ⟨BitVec.eq_of_toNat_eq h.symm, rfl, rfl⟩

/-- The command of a row, given the ARG field of the word. -/
def OpcodeRow.command : OpcodeRow → Arg → Instr
  | .plain i, _ => i
  | .withArg mk, a => mk a

/-- Each command is found at its opcode, from its own argument (R73). -/
theorem opcodeRow_opcode (i : Instr) : ∃ row, opcodeRow i.opcode = some row ∧ OpcodeRow.command row i.arg = i := by
  cases i <;> exact ⟨_, rfl, rfl⟩

/-- Every row's commands stand at the row's own opcode, whatever the argument (R73). -/
theorem opcode_of_row {o : BitVec 8} {row : OpcodeRow} (hrow : opcodeRow o = some row) (a : Arg) :
    (OpcodeRow.command row a).opcode = o := by
  have hcarries := opcodeRow_carries o
  rw [hrow] at hcarries
  cases row with
  | plain i => exact hcarries.1
  | withArg mk => exact (hcarries a).1

/-- A word decodes to the command of its opcode's row, when RSVD is 0, ARG is the command's and the command is well
formed (R74). -/
theorem decode_eq_ok_iff {w : Word} {i : Instr} :
    decode w = .ok i ↔ (∃ row, opcodeRow (opcOf w) = some row ∧ OpcodeRow.command row (argOf w) = i) ∧
      rsvdOf w = 0 ∧ i.arg = argOf w ∧ i.wellFormed = true := by
  have hcarries := opcodeRow_carries (opcOf w)
  match hrow : opcodeRow (opcOf w) with
  | none => simp [decode_of_unassigned hrow]
  | some (.plain j) =>
    rw [hrow] at hcarries
    obtain ⟨-, harg, hwf⟩ := hcarries
    simp only [decode, hrow, Option.some.injEq, exists_eq_left', OpcodeRow.command]
    constructor
    · intro h
      split at h
      · cases h
      · rename_i hbits
        obtain ⟨hrsvd, hzero⟩ := not_or.1 hbits
        cases h
        exact ⟨rfl, not_not.1 hrsvd, harg.trans (not_not.1 hzero).symm, hwf⟩
    · rintro ⟨rfl, hrsvd, hsame, -⟩
      rw [if_neg (by simp [hrsvd, ← hsame, harg])]
  | some (.withArg mk) =>
    rw [hrow] at hcarries
    obtain ⟨-, harg⟩ := hcarries (argOf w)
    simp only [decode, hrow, Option.some.injEq, exists_eq_left', OpcodeRow.command]
    constructor
    · intro h
      split_ifs at h with hrsvd hwf
      cases h
      exact ⟨rfl, not_not.1 hrsvd, harg, hwf⟩
    · rintro ⟨rfl, hrsvd, -, hwf⟩
      rw [if_neg (not_not.2 hrsvd), if_pos hwf]

/-- Settles O1: decoding asks that the word's fields be those of the command, which is what `encode_eq_iff` says. -/
theorem decodeAndEncodeAgree : Obligations.DecodeAndEncodeAgree := by
  intro w i
  rw [decode_eq_ok_iff, encode_eq_iff]
  constructor
  · rintro ⟨⟨row, hrow, hi⟩, hrsvd, harg, hwf⟩
    exact ⟨hwf, hi ▸ opcode_of_row hrow (argOf w), harg, hrsvd⟩
  · rintro ⟨hwf, hopc, harg, hrsvd⟩
    rw [← hopc, ← harg]
    exact ⟨opcodeRow_opcode i, hrsvd, rfl, hwf⟩

/-! The host's entry. -/

/-- The encoding of a well-formed command is read back as the command (R78). -/
theorem decodeTableWord_of_encode {i : Instr} (hwf : i.wellFormed = true) {n : Nat} (hn : (encode i).toNat = n) :
    decodeTableWord 64 n = some i := by
  have hword : BitVec.ofNat 64 (n % 2 ^ 64) = encode i := by
    rw [← hn, Nat.mod_eq_of_lt (encode i).isLt, BitVec.ofNat_toNat, BitVec.setWidth_eq]
  have hdecode : decode (encode i) = .ok i := (decodeAndEncodeAgree _ i).2 ⟨hwf, rfl⟩
  simp only [decodeTableWord, hword, hdecode]

/-- Settles O2: the first six are the encodings of their commands; the last has a bit of RSVD set. -/
theorem tableWordsDecode : Obligations.TableWordsDecode :=
  ⟨decodeTableWord_of_encode rfl rfl, decodeTableWord_of_encode rfl rfl, decodeTableWord_of_encode rfl rfl,
    decodeTableWord_of_encode rfl rfl, decodeTableWord_of_encode rfl rfl, decodeTableWord_of_encode rfl rfl, rfl⟩

end Sys2Proof.Machine
end

section
/-! PROOF. One step: a command word written to CMD, an access outside the window, the reset input, and that every event
is taken (spec/20_memory.md R50, R58; spec/30_encoding.md R77; spec/70_reset_and_hazards.md R230). -/

namespace Sys2Proof.Machine

/-! A word written to CMD. -/

/-- A word issued to CMD with the reset input released is dispatched (30_encoding.md R77). -/
theorem step_issue_cmd (s : State) (w : Word) :
    step (s.issue (.write (128 * s.window + 0x78) 8 w)) = dispatch w { s with resetAsserted := false } := by
  have hcmd : step (s.issue (.write (128 * s.window + 0x78) 8 w))
      = held (memWrite 0x78 8 w { s with resetAsserted := false }) := step_issue_write s 0x78 8 w
  rw [hcmd, held_memWrite rfl, memWrite_accepted ⟨rfl, rfl⟩]
  rfl

/-- Settles O4: the word is dispatched, and dispatching a word that decodes is `exec`. -/
theorem stepPerformsDecodedCommand : Obligations.StepPerformsDecodedCommand := by
  intro s w i hi
  rw [step_issue_cmd, dispatch_of_ok hi]

/-- Settles O5: the word is dispatched, and dispatching a word that does not decode records its code. -/
theorem stepRecordsRefusedWord : Obligations.StepRecordsRefusedWord := by
  intro s w c hc
  rw [step_issue_cmd, dispatch_of_error hc]
  rfl

/-- Placing a word is issuing it to CMD (log entry 1). -/
theorem withFetchWord_eq_issue (s : State) (w : Word) :
    s.withFetchWord 64 w.toNat = s.issue (.write (128 * s.window + 0x78) 8 w) := by
  have hword : BitVec.ofNat 64 (w.toNat % 2 ^ 64) = w := by
    rw [Nat.mod_eq_of_lt w.isLt, BitVec.ofNat_toNat, BitVec.setWidth_eq]
  rw [State.withFetchWord, hword]
  rfl

/-- Settles O6: the word placed is issued to CMD. -/
theorem stepRunsPlacedWord : Obligations.StepRunsPlacedWord := by
  intro s w
  rw [withFetchWord_eq_issue, step_issue_cmd]

/-! Accesses outside the window. -/

/-- An access outside the window does nothing but let the reset input hold the registers (20_memory.md R50, log entries
4 and 6). -/
theorem perform_outside {s : State} {a : Nat} (h : a < 128 * s.window ∨ 128 * s.window + 128 ≤ a) (n : Nat) (v : Word) :
    perform (.read a n) s = .next s.holdReset ∧ perform (.write a n v) s = .next s.holdReset := by
  have hnone := (windowOffset?_eq_none_iff s a).2 h
  simp only [perform, hnone, decoded_none, held, and_self]

/-- Settles O10: `step_issue_outside` with the reset input released; asserted, the registers are held at reset. -/
theorem outsideWindowLeavesEngine : Obligations.OutsideWindowLeavesEngine := by
  intro s a n v h
  obtain ⟨hread, hwrite⟩ := perform_outside (s := { s with resetAsserted := true }) h n v
  exact ⟨step_issue_outside h (.inl ⟨n, rfl⟩), step_issue_outside h (.inr ⟨n, v, rfl⟩), hread, hwrite⟩

/-! What an issued event can do. -/

/-- An event issued with the reset input released passes over the engine, reads, writes, or changes the reset input. -/
theorem step_issue_next_cases {s t : State} {e : BusEvent} (h : step (s.issue e) = .next t) :
    (∃ a n v, (e = .read a n ∨ e = .write a n v) ∧ (a < 128 * s.window ∨ 128 * s.window + 128 ≤ a) ∧
      t = { s with resetAsserted := false }) ∨
    (∃ o n, e = .read (128 * s.window + Fin.val o) n ∧ memRead o n { s with resetAsserted := false } = .next t) ∨
    (∃ o n v, e = .write (128 * s.window + Fin.val o) n v ∧
      memWrite o n v { s with resetAsserted := false } = .next t) ∨
    (e = .resetAssert ∨ e = .resetRelease) ∧ ∃ b, t = { s.resetRegisters with resetAsserted := b } := by
  cases e with
  | read a n =>
    cases ho : s.windowOffset? a with
    | none =>
      have hout := (windowOffset?_eq_none_iff s a).1 ho
      rw [step_issue_outside hout (.inl ⟨n, rfl⟩)] at h
      cases h
      exact .inl ⟨a, n, 0, .inl rfl, hout, rfl⟩
    | some o =>
      obtain rfl := windowOffset?_eq_some ho
      rw [step_issue_read, held_memRead rfl] at h
      exact .inr (.inl ⟨o, n, rfl, h⟩)
  | write a n v =>
    cases ho : s.windowOffset? a with
    | none =>
      have hout := (windowOffset?_eq_none_iff s a).1 ho
      rw [step_issue_outside hout (.inr ⟨n, v, rfl⟩)] at h
      cases h
      exact .inl ⟨a, n, v, .inr rfl, hout, rfl⟩
    | some o =>
      obtain rfl := windowOffset?_eq_some ho
      rw [step_issue_write, held_memWrite rfl] at h
      exact .inr (.inr (.inl ⟨o, n, v, rfl, h⟩))
  | resetAssert => cases h; exact .inr (.inr (.inr ⟨.inl rfl, true, rfl⟩))
  | resetRelease => cases h; exact .inr (.inr (.inr ⟨.inr rfl, false, rfl⟩))

/-! The reset input. -/

/-- Every register but ID reads 0 after reset (10_state.md R20). -/
theorem readRegister_reset (r : Register) :
    State.reset.readRegister r = if r = .ID then 0x434F46424D363401 else 0 := by
  cases r <;> rfl

/-- Settles O11: a change of the reset input writes `resetRegisters`, whatever the level was; SRESET does the same. -/
theorem resetInputClearsRegisters : Obligations.ResetInputClearsRegisters := fun s =>
  ⟨rfl, rfl, rfl, rfl, sresetGivesResetState.2 s, readRegister_reset⟩

/-- Registers at reset are at reset again after another reset. -/
theorem resetInv_of_resetRegisters (s : State) (b : Bool) : ResetInv { s.resetRegisters with resetAsserted := b } :=
  fun _ => rfl

/-- After an access the registers are at reset whenever the input is asserted (log entry 6). -/
theorem resetInv_holdReset (s : State) : ResetInv s.holdReset := by
  intro h
  obtain ⟨-, hreset, -, -⟩ := holdReset_frame s
  rw [State.holdReset, if_pos (hreset ▸ h)]
  rfl

/-- Settles O12: by what the step did. -/
theorem resetHeldWhileAsserted : Obligations.ResetHeldWhileAsserted := by
  intro s t hs h
  obtain ⟨-, rfl⟩ | ⟨_, _, _, -, u, -, rfl⟩ | ⟨_, _, _, _, -, u, -, rfl⟩ | ⟨_, _, _, _, -, -, rfl⟩ | ⟨_, -, rfl⟩
    | ⟨_, -, rfl⟩ := step_next_cases h
  · exact hs
  · exact resetInv_holdReset u
  · exact resetInv_holdReset u
  · exact resetInv_holdReset _
  · exact resetInv_of_resetRegisters _ true
  · exact resetInv_of_resetRegisters _ false

/-! Every event is taken. -/

/-- The events waiting and the window stand as they were, and the host was returned nothing or one value. -/
def ReturnsAtMostOne (t s : State) : Prop :=
  t.pending = s.pending ∧ t.window = s.window ∧ (t.readData = s.readData ∨ ∃ v, t.readData = s.readData ++ [v])

/-- What leaves the host's side leaves what was returned. -/
theorem SameHostSide.returnsAtMostOne {t u s : State} (htu : SameHostSide t u) (hus : ReturnsAtMostOne u s) :
    ReturnsAtMostOne t s := by
  obtain ⟨hwindow, -, hpending, hdata⟩ := htu
  rw [ReturnsAtMostOne, hwindow, hpending, hdata]
  exact hus

theorem ReturnsAtMostOne.refl (s : State) : ReturnsAtMostOne s s := ⟨rfl, rfl, .inl rfl⟩

/-- A read inside the window returns exactly one value (20_memory.md R53). -/
theorem memRead_returnsAtMostOne (o : Fin 128) (n : Nat) (s : State) :
    ∃ t, memRead o n s = .next t ∧ ReturnsAtMostOne t s := by
  refine ⟨_, memRead_eq o n s, ?_⟩
  split <;> exact ⟨rfl, rfl, .inr ⟨_, rfl⟩⟩

/-- An access that always answers a next state does so behind the window and the reset input too. -/
theorem held_decoded_returnsAtMostOne {access : Fin 128 → State → Result} {s : State}
    (haccess : ∀ o, ∃ t, access o s = .next t ∧ ReturnsAtMostOne t s) (a : Nat) :
    ∃ t, held (decoded (s.windowOffset? a) access s) = .next t ∧ ReturnsAtMostOne t s := by
  cases s.windowOffset? a with
  | none => exact ⟨_, rfl, (holdReset_frame s).returnsAtMostOne (.refl s)⟩
  | some o =>
    obtain ⟨t, ht, hreturns⟩ := haccess o
    rw [decoded_some, ht]
    exact ⟨_, rfl, (holdReset_frame t).returnsAtMostOne hreturns⟩

/-- Every event is answered by a next state (60_exceptions.md R206). -/
theorem perform_next (e : BusEvent) (s : State) : ∃ t, perform e s = .next t ∧ ReturnsAtMostOne t s := by
  cases e with
  | read a n => exact held_decoded_returnsAtMostOne (fun o => memRead_returnsAtMostOne o n s) a
  | write a n v =>
    refine held_decoded_returnsAtMostOne (fun o => ?_) a
    obtain ⟨t, ht, hside⟩ := memWrite_frame o n v s
    exact ⟨t, ht, hside.returnsAtMostOne (.refl s)⟩
  | resetAssert | resetRelease => exact ⟨_, rfl, rfl, rfl, .inl rfl⟩

/-- Settles O54: with no event the state stays; otherwise the oldest is taken and performed. -/
theorem stepAlwaysTakesNextEvent : Obligations.StepAlwaysTakesNextEvent := by
  intro s
  unfold step serveNext
  cases hp : s.pending with
  | nil => exact ⟨s, rfl, hp, rfl, .inl rfl⟩
  | cons e rest => exact perform_next e (s.setPending rest)

end Sys2Proof.Machine
end

section
/-! PROOF. The laws of the 32-bit kernel, the masks of a message, and the commands that write the FieldState
(spec/41_field.md section 3; spec/46_cofb.md section 4; spec/10_state.md section 4). -/

namespace Sys2Proof.Machine

/-! Linear maps. -/

/-- A map that keeps XOR and sends only 0 to 0 is a bijection: values with one image differ by a value sent to 0. -/
theorem bijective_of_xor {w : Nat} {f : BitVec w → BitVec w} (hxor : ∀ a b, f (a ^^^ b) = f a ^^^ f b)
    (hzero : ∀ a, f a = 0 → a = 0) : Function.Bijective f := by
  refine Finite.injective_iff_bijective.1 fun a b hab => BitVec.xor_eq_zero_iff.1 (hzero _ ?_)
  rw [hxor, hab, BitVec.xor_self]
  rfl

/-- A word with no bit set is 0. -/
theorem eq_zero_of_getLsbD {w : Nat} {a : BitVec w} (h : ∀ k < w, a.getLsbD k = false) : a = 0 :=
  BitVec.eq_of_getLsbD_eq fun k hk => (h k hk).trans BitVec.getLsbD_zero.symm

/-! Doubling and tripling, bit by bit. -/

/-- Bit 31 comes in at the bottom: the reduction's own bit 0 is 1 (R112). -/
theorem gdoble_getLsbD_zero (a : FieldElt) : (gdoble a).getLsbD 0 = a.getLsbD 31 := by
  unfold gdoble
  cases a.getLsbD 31 <;> simp

/-- Every other bit moves up, and bit 31 comes in wherever the reduction has a 1 (R112). -/
theorem gdoble_getLsbD_succ (a : FieldElt) {k : Nat} (hk : k + 1 < 32) :
    (gdoble a).getLsbD (k + 1) = (a.getLsbD k ^^ (a.getLsbD 31 && (0x1B#32).getLsbD (k + 1))) := by
  unfold gdoble
  cases a.getLsbD 31 <;> simp [hk, BitVec.getLsbD_eq_getElem (show k < 32 by omega)]

/-- Doubling is linear (section 3): each bit of the double is. -/
theorem gdoble_xor (a b : FieldElt) : gdoble (a ^^^ b) = gdoble a ^^^ gdoble b := by
  refine BitVec.eq_of_getLsbD_eq fun k hk => ?_
  cases k with
  | zero => simp only [BitVec.getLsbD_xor, gdoble_getLsbD_zero]
  | succ k =>
    simp only [BitVec.getLsbD_xor, gdoble_getLsbD_succ _ hk, Bool.and_xor_distrib_right]
    simp only [Bool.xor_assoc, Bool.xor_left_comm]

theorem gtriple_xor (a b : FieldElt) : gtriple (a ^^^ b) = gtriple a ^^^ gtriple b := by
  simp only [gtriple, gdoble_xor]
  ac_rfl

/-- Only 0 doubles to 0: bit 31 is bit 0 of the double, and without it the other bits just move up. -/
theorem eq_zero_of_gdoble_eq_zero {a : FieldElt} (h : gdoble a = 0) : a = 0 := by
  have htop : a.getLsbD 31 = false := by
    rw [← gdoble_getLsbD_zero, h]
    rfl
  refine eq_zero_of_getLsbD fun k hk => ?_
  obtain rfl | hup : k = 31 ∨ k + 1 < 32 := by omega
  · exact htop
  · have hbit := gdoble_getLsbD_succ a hup
    rw [h, htop, Bool.false_and, Bool.xor_false] at hbit
    exact hbit.symm.trans BitVec.getLsbD_zero

/-- Only 0 is its own double. Going up from bit 0, bit 31 comes in at bits 0, 1, 3 and 4, an even number of times, so
bit 4 is 0, and it is carried up to bit 31 unchanged. -/
theorem eq_zero_of_gdoble_eq_self {a : FieldElt} (h : gdoble a = a) : a = 0 := by
  have hzero : a.getLsbD 0 = a.getLsbD 31 := by rw [← gdoble_getLsbD_zero, h]
  have hsucc {k : Nat} (hk : k + 1 < 32) :
      a.getLsbD (k + 1) = (a.getLsbD k ^^ (a.getLsbD 31 && (0x1B#32).getLsbD (k + 1))) := by
    rw [← gdoble_getLsbD_succ a hk, h]
  have hfour : a.getLsbD 4 = false := by
    rw [hsucc (by decide), hsucc (by decide), hsucc (by decide), hsucc (by decide), hzero]
    cases a.getLsbD 31 <;> rfl
  have hcarried (k : Nat) (hk : 4 + k < 32) : a.getLsbD (4 + k) = false := by
    induction k with
    | zero => exact hfour
    | succ k ih =>
      have habove : ∀ j : Fin 28, (0x1B#32).getLsbD (4 + j.val + 1) = false := by decide
      rw [← Nat.add_assoc, hsucc (by omega), ih (by omega), habove ⟨k, by omega⟩, Bool.and_false, Bool.xor_false]
  have htop : a.getLsbD 31 = false := hcarried 27 (by decide)
  refine eq_zero_of_getLsbD fun k hk => ?_
  induction k with
  | zero => exact hzero.trans htop
  | succ k ih => rw [hsucc hk, ih (by omega), htop, Bool.false_and, Bool.xor_false]

theorem eq_zero_of_gtriple_eq_zero {a : FieldElt} (h : gtriple a = 0) : a = 0 :=
  eq_zero_of_gdoble_eq_self (BitVec.xor_eq_zero_iff.1 h).symm

/-- Every step of the sequence doubles or triples, so it keeps a nonzero word nonzero (section 3). -/
theorem goper_ne_zero (k : OperIndex) (b : FieldElt) {fs : FieldState} (hfs : fs.mx2 ≠ 0) : (goper k b fs).1 ≠ 0 := by
  intro h
  refine hfs ?_
  cases k with
  | one => exact eq_zero_of_gdoble_eq_zero h
  | two => exact eq_zero_of_gtriple_eq_zero h
  | three => exact eq_zero_of_gdoble_eq_zero (eq_zero_of_gtriple_eq_zero h)
  | four => exact eq_zero_of_gtriple_eq_zero (eq_zero_of_gtriple_eq_zero h)

/-- Settles O26: both maps are linear and send only 0 to 0. -/
theorem kernelLaws : Obligations.KernelLaws :=
  ⟨gdoble_xor, bijective_of_xor gdoble_xor fun _ => eq_zero_of_gdoble_eq_zero,
    bijective_of_xor gtriple_xor fun _ => eq_zero_of_gtriple_eq_zero, fun k b _ hfs => goper_ne_zero k b hfs⟩

/-! The masks of a message. -/

/-- Settles O50: the second step reads the double that the first one stored, the third doubles it once more. -/
theorem masksOfMessage : Obligations.MasksOfMessage := by
  intro b
  simp only [← gdoble_eq_double, ← gtriple_eq_triple]
  exact ⟨rfl, rfl, rfl⟩

/-! The commands that write FS. -/

/-- A command that leaves the message alone leaves FS, but for GF_OPER and GF_SEED outside ABSORB
(10_state.md section 4). -/
theorem exec_fs_ne {i : Instr} (hi : i ∉ messageCommands) {s t : State} (h : exec i s = .next t) (hfs : t.fs ≠ s.fs) :
    ((∃ k, i = .gfOper k) ∨ i = .gfSeed) ∧ s.phase ≠ .absorb := by
  cases i
  case sreset | cofbInitEnc | cofbInitDec | cofbBlock | cofbAbort => exact absurd (by decide) hi
  case gfOper i =>
    refine ⟨.inl ⟨i, rfl⟩, fun habsorb => hfs ?_⟩
    cases hk : operIndex? i with
    | none =>
      rw [exec_gfOper_of_none hk] at h
      rw [refuse_next_iff.1 h, State.raiseError_fs]
    | some k =>
      rw [exec_gfOper_of_some hk, if_pos habsorb] at h
      rw [refuse_next_iff.1 h, State.raiseError_fs]
  case gfSeed =>
    refine ⟨.inr rfl, fun habsorb => hfs ?_⟩
    rw [exec, execGfSeed, if_pos habsorb] at h
    rw [refuse_next_iff.1 h, State.raiseError_fs]
  -- The commands with an index are refused when it is out of range, and else write RES.
  case nibRd | nibWr | round | ksRk =>
    simp only [exec, execNibRd, execNibWr, execRound, execKsRk] at h
    split at h <;> cases h <;> exact absurd rfl hfs
  -- The commands without an argument write RES at most.
  all_goals cases h; exact absurd rfl hfs

/-- Settles O27: the commands of the message are named; the others are `exec_fs_ne`, and outside ABSORB EXP is at one of
its ends. -/
theorem fieldStateWriters : Obligations.FieldStateWriters := by
  intro i s t h hfs
  by_cases hi : i ∈ messageCommands
  · simp only [messageCommands, List.mem_cons, List.not_mem_nil, or_false] at hi
    tauto
  · obtain ⟨hname, hphase⟩ := exec_fs_ne hi h hfs
    rw [ne_eq, phase_eq_absorb_iff] at hphase
    exact .inl ⟨hname, by omega⟩

end Sys2Proof.Machine
end

section
/-! PROOF. The laws of the round primitives, and the G-feedback as a rotation and as a bijection
(spec/42_round.md section 4; spec/45_mask_feedback.md section 1). -/

namespace Sys2Proof.Machine

/-! The round primitives on cells. -/

/-- A block is determined by its cells. -/
theorem cells_injective : Function.Injective Ref.cells := by
  intro a b h
  refine eq_of_nib_eq fun p => ?_
  rw [nib_eq_cells, nib_eq_cells, h]

/-- The S-box is an involution (section 4). -/
theorem sbox_sbox : ∀ v : Nibble, Ref.sbox (Ref.sbox v) = v := by decide

/-- Each permutation table lists the inverse of the other (R131). -/
theorem shuffleTable_shuffleInvTable :
    ∀ p : Fin 16, Ref.shuffleTable.getD (Ref.shuffleInvTable.getD p.val 0).val 0 = p := by decide

theorem shuffleInvTable_shuffleTable :
    ∀ p : Fin 16, Ref.shuffleInvTable.getD (Ref.shuffleTable.getD p.val 0).val 0 = p := by decide

/-- Going around the column adds up, and four places lead back (R132). -/
theorem columnMate_columnMate (p : Fin 16) (d e : Nat) :
    Ref.columnMate (Ref.columnMate p d) e = Ref.columnMate p ((d + e) % 4) := by
  refine Fin.ext ?_
  simp only [Ref.columnMate]
  omega

theorem columnMate_zero (p : Fin 16) : Ref.columnMate p 0 = p := by
  refine Fin.ext ?_
  simp only [Ref.columnMate]
  omega

/-- Of three sums of three nibbles that all hold `a`, each other nibble stands in two and cancels (section 4). -/
theorem xor_threes (a b c d : Nibble) : (c ^^^ d ^^^ a) ^^^ (d ^^^ a ^^^ b) ^^^ (a ^^^ b ^^^ c) = a := by
  grind

theorem subCell_subCell (s : Block) : subCell (subCell s) = s := by
  refine cells_injective (funext fun p => ?_)
  rw [cells_subCell, cells_subCell]
  exact sbox_sbox _

theorem mixColumn_mixColumn (s : Block) : mixColumn (mixColumn s) = s := by
  refine cells_injective (funext fun p => ?_)
  rw [cells_mixColumn, cells_mixColumn]
  simp only [Ref.mixColumn, columnMate_columnMate, Nat.reduceAdd, Nat.reduceMod, columnMate_zero]
  exact xor_threes _ _ _ _

theorem shuffleCell_forward_inverse (s : Block) : shuffleCell (shuffleCell s false) true = s := by
  refine cells_injective (funext fun p => ?_)
  rw [cells_shuffleCell_inverse, cells_shuffleCell_forward, Ref.shuffle, Ref.shuffle, shuffleTable_shuffleInvTable]

theorem shuffleCell_inverse_forward (s : Block) : shuffleCell (shuffleCell s true) false = s := by
  refine cells_injective (funext fun p => ?_)
  rw [cells_shuffleCell_forward, cells_shuffleCell_inverse, Ref.shuffle, Ref.shuffle, shuffleInvTable_shuffleTable]

/-- Settles O34: each law, cell by cell. -/
theorem roundPrimitiveLaws : Obligations.RoundPrimitiveLaws := fun s =>
  ⟨subCell_subCell s, mixColumn_mixColumn s, shuffleCell_forward_inverse s, shuffleCell_inverse_forward s⟩

/-! The G-feedback. -/

/-- The rotation brings the top 16 bits to the bottom, where the old low bits are added (R171). -/
theorem mulGY_eq_rotateLeft_xor (y : Block) : mulGY y = y.rotateLeft 16 ^^^ (0#48 ++ y.extractLsb' 0 16) := by
  have hrotate : y.rotateLeft 16 = y.extractLsb' 0 48 ++ y.extractLsb' 48 16 := by
    have hup : y <<< 16 = y.extractLsb' 0 48 ++ 0#16 := BitVec.shiftLeft_eq_concat_of_lt (by decide)
    have hdown : y >>> 48 = 0#48 ++ y.extractLsb' 48 16 := BitVec.ushiftRight_eq_extractLsb'_of_lt (by decide)
    have hor : y.rotateLeft 16 = y <<< 16 ||| y >>> 48 := BitVec.rotateLeft_def
    rw [hor, hup, hdown, BitVec.or_append, BitVec.or_zero, BitVec.zero_or]
  rw [mulGY_eq_feedback, Ref.feedback, hrotate, BitVec.xor_append, BitVec.xor_zero]

/-- A block is its top 16 bits over its low 48. -/
theorem block_eq_append (y : Block) : y.extractLsb' 48 16 ++ y.extractLsb' 0 48 = y :=
  BitVec.extractLsb'_append_extractLsb' (w := 16) (len := 48)

/-- The feedback shows the low 48 bits as they are; adding the low 16 of them to the sum gives back the top 16
(R171). -/
theorem mulGY_injective : Function.Injective mulGY := by
  intro a b hab
  rw [mulGY_eq_feedback, mulGY_eq_feedback, Ref.feedback, Ref.feedback] at hab
  have hlow : a.extractLsb' 0 48 = b.extractLsb' 0 48 := by
    rw [← BitVec.extractLsb'_append_eq_left (a := a.extractLsb' 0 48), hab, BitVec.extractLsb'_append_eq_left]
  have hsum : a.extractLsb' 48 16 ^^^ a.extractLsb' 0 16 = b.extractLsb' 48 16 ^^^ b.extractLsb' 0 16 := by
    rw [← BitVec.extractLsb'_append_eq_right (b := a.extractLsb' 48 16 ^^^ a.extractLsb' 0 16), hab,
      BitVec.extractLsb'_append_eq_right]
  have hpart (y : Block) : (y.extractLsb' 0 48).extractLsb' 0 16 = y.extractLsb' 0 16 :=
    BitVec.extractLsb'_extractLsb'_of_le (by decide)
  have htop : a.extractLsb' 48 16 = b.extractLsb' 48 16 := by
    rwa [← hpart a, hlow, hpart b, BitVec.xor_left_inj] at hsum
  rw [← block_eq_append a, ← block_eq_append b, htop, hlow]

/-- Settles O41: on the finitely many blocks an injective map is a bijection. -/
theorem feedbackIsBijective : Obligations.FeedbackIsBijective :=
  ⟨mulGY_eq_rotateLeft_xor, Finite.injective_iff_bijective.1 mulGY_injective⟩

end Sys2Proof.Machine
end

section
/-! PROOF. The message invariant, at reset and across every step (spec/46_cofb.md, sections 1 to 3;
spec/10_state.md, sections 2 to 5). -/

namespace Sys2Proof.Machine

/-! What an absorbed block leaves. -/

/-- A block that finds its index is absorbed in a message (46_cofb.md R184). -/
theorem phaseOf_of_absorbIndex? {e : Fin 5} {k : OperIndex} (hk : absorbIndex? e = some k) : phaseOf e = .absorb := by
  by_contra h
  rw [absorbIndex?_eq_none.2 h] at hk
  cases hk

/-- The state after an absorbed block, field by field, from the operands of the state before it (46_cofb.md R184). -/
theorem absorbBlock_eq (k : OperIndex) (s : State) : absorbBlock k s = { s with
    y := midori (((goper k s.beta s.fs).1.setWidth 64 <<< 32) ^^^ blockBGY s) s.key,
    fs := (goper k s.beta s.fs).2, exp := s.exp + 1,
    dout := if 2 < s.exp then s.y ^^^ s.din else s.dout, doutValid := decide (2 < s.exp) } := by
  by_cases hpay : 2 < s.exp
  · rw [absorbBlock, blockOutput, if_pos hpay, if_pos hpay, decide_eq_true hpay]
    rfl
  · rw [absorbBlock, blockOutput, if_neg hpay, if_neg hpay, decide_eq_false hpay]
    rfl

/-! The invariant between states. -/

/-- The invariant is about the message registers, and about the key, the nonce and FS while a message is absorbed. -/
theorem MessageInv.of_agree {s t : State} (hs : MessageInv s)
    (hmsg : t.exp = s.exp ∧ t.y = s.y ∧ t.beta = s.beta ∧ t.dout = s.dout ∧ t.doutValid = s.doutValid)
    (hlock : s.phase = .absorb → t.key = s.key ∧ t.nonce = s.nonce ∧ t.fs = s.fs) : MessageInv t := by
  obtain ⟨hexp, hy, hbeta, hdout, hvalid⟩ := hmsg
  have habsorb {e : Fin 5} (he : phaseOf e = .absorb) (hte : t.exp = e) : s.phase = .absorb := by
    rw [State.phase, ← hexp, hte, he]
  constructor
  case validAtDone => rw [hvalid, hexp]; exact hs.validAtDone
  case noOutput => rw [hvalid, hdout]; exact hs.noOutput
  case idleClear => rw [hexp, hy, hbeta]; exact hs.idleClear
  case maskOfNonce =>
    intro h
    obtain ⟨hkey, hnonce, -⟩ := hlock (habsorb h rfl)
    rw [hbeta, hkey, hnonce]
    exact hs.maskOfNonce (habsorb h rfl)
  case beforeFirst =>
    intro h
    obtain ⟨hkey, hnonce, hfs⟩ := hlock (habsorb rfl h)
    rw [hy, hbeta, hkey, hnonce, hfs]
    exact hs.beforeFirst (hexp ▸ h)
  case beforeSecond =>
    intro h
    obtain ⟨-, -, hfs⟩ := hlock (habsorb rfl h)
    rw [hbeta, hfs]
    exact hs.beforeSecond (hexp ▸ h)
  case beforeThird =>
    intro h
    obtain ⟨-, -, hfs⟩ := hlock (habsorb rfl h)
    rw [hbeta, hfs]
    exact hs.beforeThird (hexp ▸ h)

/-- With no message and nothing left of one, the invariant holds (46_cofb.md R190). -/
theorem messageInv_of_idle {t : State} (hexp : t.exp = 0) (hy : t.y = 0) (hbeta : t.beta = 0) (hdout : t.dout = 0)
    (hvalid : t.doutValid = false) : MessageInv t := by
  constructor
  case validAtDone => simp [hvalid, hexp]
  case noOutput => exact fun _ => hdout
  case idleClear => exact fun _ => ⟨hy, hbeta⟩
  case maskOfNonce => simp [State.phase, phaseOf, hexp]
  all_goals simp [hexp]

theorem messageInv_resetRegisters (s : State) (b : Bool) :
    MessageInv { s.resetRegisters with resetAsserted := b } :=
  messageInv_of_idle rfl rfl rfl rfl rfl

/-- Settles O48: at reset there is no message, and the reset state is its own reset. -/
theorem resetMeetsInvariants : Obligations.ResetMeetsInvariants :=
  ⟨messageInv_of_idle rfl rfl rfl rfl rfl, fun _ => rfl⟩

/-- INIT establishes the invariant before the first block (46_cofb.md R181). -/
theorem messageInv_msgInit (d : Direction) (s : State) : MessageInv (msgInit d s).recordOk := by
  constructor
  case validAtDone => simp [msgInit]
  case noOutput => exact fun _ => rfl
  case maskOfNonce => exact fun _ => rfl
  case beforeFirst => exact fun _ => ⟨rfl, rfl⟩
  all_goals simp [msgInit]

/-- While a message is absorbed there is no output (10_state.md R26, R34). -/
theorem MessageInv.noOutput_of_absorb {s : State} (hs : MessageInv s) (h : s.phase = .absorb) :
    s.dout = 0 ∧ s.doutValid = false := by
  have hexp : s.exp ≠ 4 := by
    have := phase_eq_absorb_iff.1 h
    omega
  have hvalid : s.doutValid = false := Bool.eq_false_iff.2 (mt hs.validAtDone.1 hexp)
  exact ⟨hs.noOutput hvalid, hvalid⟩

/-- Between two blocks of a message the invariant is about the mask, FS and the missing output (46_cofb.md R184). -/
theorem messageInv_between {t : State} (hexp : t.exp = 2 ∨ t.exp = 3) (hout : t.dout = 0 ∧ t.doutValid = false)
    (hbeta : t.beta = maskGen (midori t.nonce t.key))
    (hsecond : t.exp = 2 → t.fs = ⟨gdoble t.beta, t.beta, t.beta⟩)
    (hthird : t.exp = 3 → t.fs = ⟨gdoble t.beta, gtriple (gdoble t.beta), t.beta⟩) : MessageInv t := by
  obtain ⟨hdout, hvalid⟩ := hout
  obtain ⟨hidle, hfirst, hdone⟩ : t.exp ≠ 0 ∧ t.exp ≠ 1 ∧ t.exp ≠ 4 := by omega
  constructor
  case validAtDone => simp [hvalid, hdone]
  case noOutput => exact fun _ => hdout
  case idleClear => exact fun h => absurd h hidle
  case maskOfNonce => exact fun _ => hbeta
  case beforeFirst => exact fun h => absurd h hfirst
  case beforeSecond => exact hsecond
  case beforeThird => exact hthird

/-- After the third block only the output is left to speak of (46_cofb.md R185). -/
theorem messageInv_of_done {t : State} (hexp : t.exp = 4) (hvalid : t.doutValid = true) : MessageInv t := by
  constructor
  case validAtDone => simp [hvalid, hexp]
  case noOutput => simp [hvalid]
  case maskOfNonce => simp [State.phase, phaseOf, hexp]
  all_goals simp [hexp]

/-- A block carries the invariant from each position to the next (46_cofb.md R184). -/
theorem messageInv_absorbBlock {k : OperIndex} {s : State} (hk : absorbIndex? s.exp = some k) (hs : MessageInv s) :
    MessageInv (absorbBlock k s).recordOk := by
  obtain ⟨hexp, hfour⟩ := absorbIndex?_eq_some.1 hk
  have habsorb : s.phase = .absorb := phaseOf_of_absorbIndex? hk
  have hbeta := hs.maskOfNonce habsorb
  have hout := hs.noOutput_of_absorb habsorb
  rw [absorbBlock_eq]
  cases k with
  | one =>
    have h1 : s.exp = 1 := Fin.ext hexp
    obtain ⟨-, hfs⟩ := hs.beforeFirst h1
    simp only [h1]
    exact messageInv_between (.inl rfl) ⟨hout.1, rfl⟩ hbeta (fun _ => by rw [hfs]; rfl) nofun
  | two =>
    have h2 : s.exp = 2 := Fin.ext hexp
    have hfs := hs.beforeSecond h2
    simp only [h2]
    exact messageInv_between (.inr rfl) ⟨hout.1, rfl⟩ hbeta nofun (fun _ => by rw [hfs]; rfl)
  | three =>
    have h3 : s.exp = 3 := Fin.ext hexp
    simp only [h3]
    exact messageInv_of_done rfl rfl
  | four => exact absurd rfl hfour

/-! The key and the nonce. -/

/-- A lockable register is written only outside ABSORB (10_state.md R21). -/
theorem lockedWrite_next_iff {s s' t : State} : lockedWrite s s' = .next t ↔
    s.phase = .absorb ∧ t = s.raiseError .locked ∨ s.phase ≠ .absorb ∧ t = s' := by
  unfold lockedWrite
  by_cases habsorb : s.phase = .absorb
  · simp [habsorb, refuse_next_iff]
  · simp [habsorb, eq_comm]

/-- The commands that leave the message alone leave the key and the nonce. -/
theorem exec_key_nonce_of_notMem {i : Instr} (hi : i ∉ messageCommands) {s t : State} (h : exec i s = .next t) :
    t.key = s.key ∧ t.nonce = s.nonce := by
  obtain ⟨c, hc⟩ | ⟨fs, v, hv⟩ := exec_refuse_or_accept_setFs_setRes hi s
  · cases hc.symm.trans h
    exact ⟨rfl, rfl⟩
  · cases hv.symm.trans h
    exact ⟨rfl, rfl⟩

/-- No command but SRESET writes the key or the nonce (10_state.md R21, R22). -/
theorem exec_key_nonce {i : Instr} (hi : i ≠ .sreset) {s t : State} (h : exec i s = .next t) :
    t.key = s.key ∧ t.nonce = s.nonce := by
  cases i
  case sreset => exact absurd rfl hi
  case cofbInitEnc | cofbInitDec | cofbAbort => cases h; exact ⟨rfl, rfl⟩
  case cofbBlock =>
    cases hk : absorbIndex? s.exp with
    | none =>
      rw [exec_cofbBlock_of_none hk] at h
      cases h
      exact ⟨rfl, rfl⟩
    | some k =>
      rw [exec_cofbBlock_of_some hk, absorbBlock_eq] at h
      cases h
      exact ⟨rfl, rfl⟩
  all_goals exact exec_key_nonce_of_notMem (by simp [messageCommands]) h

/-- SRESET has the one word 1 (30_encoding.md R73, R74). -/
theorem decode_eq_sreset_iff {w : Word} : decode w = .ok .sreset ↔ w = 1 := by
  have hword : encode .sreset = 1 := rfl
  rw [decodeAndEncodeAgree, hword, @eq_comm _ 1 w]
  exact and_iff_right rfl

/-- While a message is absorbed, a write to any register but SRESET's word to CMD leaves the key and the nonce. -/
theorem writeRegister_key_nonce {r : Register} {v : Word} {s t : State} (habsorb : s.phase = .absorb)
    (hreset : ¬ (r = .CMD ∧ v = 1)) (h : writeRegister r v s = .next t) : t.key = s.key ∧ t.nonce = s.nonce := by
  cases r
  case CMD =>
    have hdispatch : dispatch v s = .next t := h
    cases hv : decode v with
    | error c =>
      rw [dispatch_of_error hv] at hdispatch
      cases hdispatch
      exact ⟨rfl, rfl⟩
    | ok i =>
      rw [dispatch_of_ok hv] at hdispatch
      refine exec_key_nonce (fun hi => hreset ⟨rfl, ?_⟩) hdispatch
      rw [← decode_eq_sreset_iff, hv, hi]
  case KEY0 | KEY1 | NONCE =>
    obtain ⟨-, rfl⟩ | ⟨hphase, -⟩ := lockedWrite_next_iff.1 h
    · exact ⟨rfl, rfl⟩
    · exact absurd habsorb hphase
  case STATUS =>
    rw [writeRegister_STATUS] at h
    cases h
    exact ⟨rfl, rfl⟩
  -- The other registers store another value, or are read-only.
  all_goals cases h; exact ⟨rfl, rfl⟩

/-- The same of a write of any size at any offset: CMD stands at 0x78. -/
theorem memWrite_key_nonce {o : Fin 128} {n : Nat} {v : Word} {s t : State} (habsorb : s.phase = .absorb)
    (hreset : ¬ (o.val = 0x78 ∧ n = 8 ∧ v = 1)) (h : memWrite o n v s = .next t) :
    t.key = s.key ∧ t.nonce = s.nonce := by
  by_cases haccess : n = 8 ∧ o.val % 8 = 0
  · rw [memWrite_accepted haccess] at h
    refine writeRegister_key_nonce habsorb (fun ⟨hcmd, hv⟩ => hreset ⟨?_, haccess.1, hv⟩) h
    rw [← registerOffset_registerAt haccess.2, hcmd]
    rfl
  · rw [memWrite_refused haccess] at h
    cases h
    exact ⟨rfl, rfl⟩

/-- Settles O47: by what the event can do. -/
theorem keyAndNonceLocked : Obligations.KeyAndNonceLocked := by
  intro s t e hlow hhigh hassert hrelease hsreset h
  have hsame : t.key = s.key ∧ t.nonce = s.nonce := by
    obtain ⟨-, -, -, -, -, rfl⟩ | ⟨o, n, -, hread⟩ | ⟨o, n, v, rfl, hwrite⟩ | ⟨hchange, -⟩ := step_issue_next_cases h
    · exact ⟨rfl, rfl⟩
    · rw [memRead_eq] at hread
      cases hread
      split <;> exact ⟨rfl, rfl⟩
    · have habsorb : State.phase { s with resetAsserted := false } = .absorb := phase_eq_absorb_iff.2 ⟨hlow, hhigh⟩
      have hreset : ¬ (o.val = 0x78 ∧ n = 8 ∧ v = 1) := by
        rintro ⟨hoffset, rfl, rfl⟩
        exact hsreset (by rw [hoffset])
      exact (memWrite_key_nonce habsorb hreset hwrite :)
    · exact absurd hchange (not_or.2 ⟨hassert, hrelease⟩)
  obtain ⟨hkey, hnonce⟩ := hsame
  exact ⟨congrArg Key.k0 hkey, congrArg Key.k1 hkey, hnonce⟩

/-! The invariant across the commands. -/

/-- Recording an error touches nothing the invariant is about (60_exceptions.md R203). -/
theorem MessageInv.raiseError {s : State} (hs : MessageInv s) (c : ErrorCode) : MessageInv (s.raiseError c) :=
  hs.of_agree ⟨rfl, rfl, rfl, rfl, rfl⟩ fun _ => ⟨rfl, rfl, rfl⟩

/-- The commands that leave the message alone keep the invariant: they write FS outside ABSORB only. -/
theorem exec_messageInv_of_notMem {i : Instr} (hi : i ∉ messageCommands) {s t : State} (hs : MessageInv s)
    (h : exec i s = .next t) : MessageInv t := by
  obtain ⟨c, hc⟩ | ⟨fs, v, hv⟩ := exec_refuse_or_accept_setFs_setRes hi s
  · cases hc.symm.trans h
    exact hs.raiseError c
  · cases hv.symm.trans h
    refine hs.of_agree ⟨rfl, rfl, rfl, rfl, rfl⟩ fun habsorb => ⟨rfl, rfl, ?_⟩
    by_contra hne
    exact (exec_fs_ne hi h hne).2 habsorb

/-- Every command keeps the invariant (46_cofb.md R180 to R190). -/
theorem exec_messageInv {i : Instr} {s t : State} (hs : MessageInv s) (h : exec i s = .next t) : MessageInv t := by
  cases i
  case sreset | cofbAbort => cases h; exact messageInv_of_idle rfl rfl rfl rfl rfl
  case cofbInitEnc | cofbInitDec => cases h; exact messageInv_msgInit _ s
  case cofbBlock =>
    cases hk : absorbIndex? s.exp with
    | none =>
      rw [exec_cofbBlock_of_none hk] at h
      cases h
      exact hs.raiseError _
    | some k =>
      rw [exec_cofbBlock_of_some hk] at h
      cases h
      exact messageInv_absorbBlock hk hs
  all_goals exact exec_messageInv_of_notMem (by simp [messageCommands]) hs h

/-- A word written to CMD keeps the invariant, refused or performed. -/
theorem dispatch_messageInv {w : Word} {s t : State} (hs : MessageInv s) (h : dispatch w s = .next t) :
    MessageInv t := by
  cases hw : decode w with
  | error c =>
    rw [dispatch_of_error hw] at h
    cases h
    exact hs.raiseError c
  | ok i => exact exec_messageInv hs (dispatch_of_ok hw s ▸ h)

/-! The invariant across the accesses. -/

/-- A write to a register keeps the invariant: the key and the nonce are written outside ABSORB only. -/
theorem writeRegister_messageInv {r : Register} {v : Word} {s t : State} (hs : MessageInv s)
    (h : writeRegister r v s = .next t) : MessageInv t := by
  cases r
  case CMD => exact dispatch_messageInv hs h
  case KEY0 | KEY1 | NONCE =>
    obtain ⟨-, rfl⟩ | ⟨hphase, rfl⟩ := lockedWrite_next_iff.1 h
    · exact hs.raiseError _
    · exact hs.of_agree ⟨rfl, rfl, rfl, rfl, rfl⟩ fun habsorb => absurd habsorb hphase
  case STATUS =>
    rw [writeRegister_STATUS] at h
    cases h
    exact hs.of_agree ⟨rfl, rfl, rfl, rfl, rfl⟩ fun _ => ⟨rfl, rfl, rfl⟩
  -- The other registers store a value the invariant does not speak of, or are read-only.
  all_goals
    cases h
    exact hs.of_agree ⟨rfl, rfl, rfl, rfl, rfl⟩ fun _ => ⟨rfl, rfl, rfl⟩

theorem memWrite_messageInv {o : Fin 128} {n : Nat} {v : Word} {s t : State} (hs : MessageInv s)
    (h : memWrite o n v s = .next t) : MessageInv t := by
  by_cases haccess : n = 8 ∧ o.val % 8 = 0
  · rw [memWrite_accepted haccess] at h
    exact writeRegister_messageInv hs h
  · rw [memWrite_refused haccess] at h
    cases h
    exact hs.raiseError _

theorem memRead_messageInv {o : Fin 128} {n : Nat} {s t : State} (hs : MessageInv s) (h : memRead o n s = .next t) :
    MessageInv t := by
  rw [memRead_eq] at h
  cases h
  split <;> exact hs.of_agree ⟨rfl, rfl, rfl, rfl, rfl⟩ fun _ => ⟨rfl, rfl, rfl⟩

theorem MessageInv.holdReset {s : State} (hs : MessageInv s) : MessageInv s.holdReset := by
  unfold State.holdReset
  split
  · exact messageInv_of_idle rfl rfl rfl rfl rfl
  · exact hs

theorem MessageInv.setPending {s : State} (hs : MessageInv s) (es : List BusEvent) : MessageInv (s.setPending es) :=
  hs.of_agree ⟨rfl, rfl, rfl, rfl, rfl⟩ fun _ => ⟨rfl, rfl, rfl⟩

/-- Settles O49: by what the step did. -/
theorem stepKeepsMessageState : Obligations.StepKeepsMessageState := by
  intro s t hs h
  obtain ⟨-, rfl⟩ | ⟨rest, _, _, -, _, hread, rfl⟩ | ⟨rest, _, _, _, -, _, hwrite, rfl⟩
    | ⟨rest, _, _, _, -, -, rfl⟩ | ⟨_, -, rfl⟩ | ⟨_, -, rfl⟩ := step_next_cases h
  · exact hs
  · exact (memRead_messageInv (hs.setPending rest) hread).holdReset
  · exact (memWrite_messageInv (hs.setPending rest) hwrite).holdReset
  · exact (hs.setPending rest).holdReset
  · exact messageInv_resetRegisters _ true
  · exact messageInv_resetRegisters _ false

end Sys2Proof.Machine
end

section
/-! PROOF. The laws of the mode: a message forgets the past, its payload runs the same in both directions, and
decrypting undoes encrypting (spec/46_cofb.md sections 3 and 4). -/

namespace Sys2Proof.Machine

/-! The states of a message. -/

/-- The state an accepted INIT leaves (46_cofb.md R181). -/
def afterInit (d : Direction) (s : State) : State := (msgInit d s).recordOk

/-- The state an accepted block leaves (46_cofb.md R184). -/
def afterBlock (k : OperIndex) (b : Block) (s : State) : State := (absorbBlock k { s with din := b }).recordOk

/-- The state before the payload block: INIT and the blocks at EXP 1 and 2 are done. -/
def atPayload (d : Direction) (a1 a2 : Block) (s : State) : State :=
  afterBlock .two a2 (afterBlock .one a1 (afterInit d s))

theorem afterBlock_dir (k : OperIndex) (b : Block) (s : State) : (afterBlock k b s).dir = s.dir :=
  absorbBlock_dir k { s with din := b }

theorem atPayload_exp (d : Direction) (a1 a2 : Block) (s : State) : (atPayload d a1 a2 s).exp = 3 := rfl

theorem atPayload_dir (d : Direction) (a1 a2 : Block) (s : State) : (atPayload d a1 a2 s).dir = d := by
  rw [atPayload, afterBlock_dir, afterBlock_dir]
  rfl

/-- A command that is accepted goes on with a message. -/
theorem acceptedCommand_of_accept {i : Instr} {s u : State} (h : exec i s = accept u) :
    acceptedCommand i s = some u.recordOk := by
  simp only [acceptedCommand, h, accept, State.recordOk_lastErr, if_true]

/-- A block is accepted at each of the three positions of a message. -/
theorem messageBlock_of_some {k : OperIndex} {s : State} (hk : absorbIndex? s.exp = some k) (b : Block) :
    messageBlock b s = some (afterBlock k b s) :=
  acceptedCommand_of_accept (exec_cofbBlock_of_some (s := { s with din := b }) hk)

/-- A whole message is accepted, and runs through its states (46_cofb.md R180). -/
theorem message_eq {init : Instr} {d : Direction} (hinit : ∀ s, exec init s = accept (msgInit d s)) (a1 a2 b : Block)
    (s : State) : message init a1 a2 b s = some (afterBlock .three b (atPayload d a1 a2 s)) := by
  have h0 : acceptedCommand init s = some (afterInit d s) := acceptedCommand_of_accept (hinit s)
  have h1 : messageBlock a1 (afterInit d s) = some (afterBlock .one a1 (afterInit d s)) := messageBlock_of_some rfl a1
  have h2 : messageBlock a2 (afterBlock .one a1 (afterInit d s)) = some (atPayload d a1 a2 s) :=
    messageBlock_of_some rfl a2
  have h3 : messageBlock b (atPayload d a1 a2 s) = some (afterBlock .three b (atPayload d a1 a2 s)) :=
    messageBlock_of_some rfl b
  simp only [message, h0, h1, h2, h3, Option.bind_eq_bind, Option.bind_some]

/-! Two engines in the same message. -/

/-- The two engines agree on the key, the nonce and every register of the message but DIR. -/
structure SameMessage (s s' : State) : Prop where
  key : s.key = s'.key
  nonce : s.nonce = s'.nonce
  y : s.y = s'.y
  beta : s.beta = s'.beta
  fs : s.fs = s'.fs
  exp : s.exp = s'.exp
  dout : s.dout = s'.dout
  doutValid : s.doutValid = s'.doutValid

/-- The state after a block, field by field. -/
theorem afterBlock_eq (k : OperIndex) (b : Block) (s : State) : afterBlock k b s = { s with
    din := b, y := midori (((goper k s.beta s.fs).1.setWidth 64 <<< 32) ^^^ blockBGY { s with din := b }) s.key,
    fs := (goper k s.beta s.fs).2, exp := s.exp + 1,
    dout := if 2 < s.exp then s.y ^^^ b else s.dout, doutValid := decide (2 < s.exp), lastErr := .ok } := by
  rw [afterBlock, absorbBlock_eq]
  rfl

theorem afterBlock_y (k : OperIndex) (b : Block) (s : State) : (afterBlock k b s).y =
    midori (((goper k s.beta s.fs).1.setWidth 64 <<< 32) ^^^ blockBGY { s with din := b }) s.key := rfl

theorem afterBlock_fs (k : OperIndex) (b : Block) (s : State) :
    (afterBlock k b s).fs = (goper k s.beta s.fs).2 := rfl

/-- INIT leaves nothing of the past but the key and the nonce (46_cofb.md R181). -/
theorem sameMessage_afterInit {s s' : State} (hkey : s.key = s'.key) (hnonce : s.nonce = s'.nonce)
    (d d' : Direction) : SameMessage (afterInit d s) (afterInit d' s') := by
  have hy : midori s.nonce s.key = midori s'.nonce s'.key := by rw [hkey, hnonce]
  exact ⟨hkey, hnonce, hy, congrArg maskGen hy, congrArg (fun y => FieldState.splat (maskGen y)) hy, rfl, rfl, rfl⟩

/-- Blocks that lead to the same BGY keep the chaining value and FS the same (46_cofb.md R184). -/
theorem SameMessage.block_y_fs {s s' : State} (h : SameMessage s s') (k : OperIndex) {b b' : Block}
    (hbgy : blockBGY { s with din := b } = blockBGY { s' with din := b' }) :
    (afterBlock k b s).y = (afterBlock k b' s').y ∧ (afterBlock k b s).fs = (afterBlock k b' s').fs := by
  rw [afterBlock_y, afterBlock_y, afterBlock_fs, afterBlock_fs, hbgy, h.beta, h.fs, h.key]
  exact ⟨rfl, rfl⟩

/-- One block keeps two engines together; only at the payload does DIR count (46_cofb.md R184). -/
theorem SameMessage.block {s s' : State} (h : SameMessage s s') (hdir : 2 < s'.exp → s.dir = s'.dir)
    (k : OperIndex) (b : Block) : SameMessage (afterBlock k b s) (afterBlock k b s') := by
  have hbgy : blockBGY { s with din := b } = blockBGY { s' with din := b } := by
    by_cases hpay : 2 < s'.exp
    · simp only [blockBGY, h.y, h.exp, hdir hpay]
    · simp only [blockBGY, h.y, h.exp, hpay, false_and, if_false]
  obtain ⟨hy, hfs⟩ := h.block_y_fs k hbgy
  constructor
  case y => exact hy
  case fs => exact hfs
  case key => rw [afterBlock_eq, afterBlock_eq]; exact h.key
  case nonce => rw [afterBlock_eq, afterBlock_eq]; exact h.nonce
  case beta => rw [afterBlock_eq, afterBlock_eq]; exact h.beta
  all_goals simp only [afterBlock_eq, h.exp, h.y, h.dout]

/-- Before the payload, two messages of the same key, nonce and blocks stand alike, whatever their directions. -/
theorem sameMessage_atPayload {s s' : State} (hkey : s.key = s'.key) (hnonce : s.nonce = s'.nonce)
    (d d' : Direction) (a1 a2 : Block) : SameMessage (atPayload d a1 a2 s) (atPayload d' a1 a2 s') := by
  have h0 := sameMessage_afterInit hkey hnonce d d'
  have h1 : SameMessage (afterBlock .one a1 (afterInit d s)) (afterBlock .one a1 (afterInit d' s')) :=
    h0.block (fun hpay => absurd (show 2 < (1 : Fin 5) from hpay) (by decide)) .one a1
  exact h1.block (fun hpay => absurd (show 2 < (2 : Fin 5) from hpay) (by decide)) .two a2

theorem key_eq_of_halves {s s' : State} (h0 : s.key0 = s'.key0) (h1 : s.key1 = s'.key1) : s.key = s'.key := by
  rw [State.key, State.key, h0, h1]

/-- Settles O52: the two engines stand alike before the payload, and DIR is the same. -/
theorem messageForgetsThePast : Obligations.MessageForgetsThePast := by
  intro s s' init a1 a2 b hinit h0 h1 hnonce
  obtain ⟨d, hd⟩ : ∃ d, ∀ s, exec init s = accept (msgInit d s) := by
    obtain rfl | rfl := hinit
    · exact ⟨.encrypt, fun _ => rfl⟩
    · exact ⟨.decrypt, fun _ => rfl⟩
  have hbefore := sameMessage_atPayload (key_eq_of_halves h0 h1) hnonce d d a1 a2
  have hall := hbefore.block (fun _ => by rw [atPayload_dir, atPayload_dir]) .three b
  exact ⟨_, _, message_eq hd a1 a2 b s, message_eq hd a1 a2 b s', hall.dout, hall.y, hall.beta, hall.fs, hall.exp,
    hall.doutValid⟩

/-! The payload in both directions. -/

/-- The payload block's output is `Y ^ DIN` in either direction (46_cofb.md R184, R185). -/
theorem afterBlock_dout {s : State} (hexp : s.exp = 3) (k : OperIndex) (b : Block) :
    (afterBlock k b s).dout = s.y ^^^ b := by
  rw [afterBlock_eq]
  simp only [hexp]
  rfl

theorem xor_xor_cancel_left {w : Nat} (a b : BitVec w) : a ^^^ (a ^^^ b) = b := by
  rw [← BitVec.xor_assoc, BitVec.xor_self, BitVec.zero_xor]

/-- What the decrypted payload puts out, the encrypted one turns back into its block; and since a decrypted payload adds
the chaining value once more, both directions feed the plaintext to the cipher (46_cofb.md R184, R187). -/
theorem SameMessage.payload {s s' : State} (h : SameMessage s s') (hexp : s'.exp = 3) (henc : s.dir = .encrypt)
    (hdec : s'.dir = .decrypt) {b c : Block} (hplain : b = s'.y ^^^ c) :
    (afterBlock .three b s).dout = c ∧ (afterBlock .three b s).y = (afterBlock .three c s').y ∧
      (afterBlock .three b s).fs = (afterBlock .three c s').fs := by
  refine ⟨?_, h.block_y_fs .three ?_⟩
  · rw [afterBlock_dout (h.exp.trans hexp), h.y, hplain, xor_xor_cancel_left]
  · have hpay : (2 : Fin 5) < 3 := by decide
    simp only [blockBGY, h.exp, hexp, henc, hdec, h.y, hpay, hplain, reduceCtorEq, and_false, and_self, if_true,
      if_false]
    exact BitVec.xor_assoc _ _ _

/-- Settles O51: the two engines stand alike before the payload; there the encrypted block is decrypted. -/
theorem decryptUndoesEncrypt : Obligations.DecryptUndoesEncrypt := by
  intro s s' a1 a2 b h0 h1 hnonce
  have hbefore := sameMessage_atPayload (key_eq_of_halves h0 h1) hnonce .encrypt .decrypt a1 a2
  have hcipher := afterBlock_dout (atPayload_exp .encrypt a1 a2 s) .three b
  have hplain : b = (atPayload .decrypt a1 a2 s').y ^^^ (afterBlock .three b (atPayload .encrypt a1 a2 s)).dout := by
    rw [hcipher, hbefore.y, xor_xor_cancel_left]
  obtain ⟨-, htag, -⟩ := hbefore.payload rfl (atPayload_dir _ _ _ _) (atPayload_dir _ _ _ _) hplain
  refine ⟨_, _, message_eq (fun _ => rfl) a1 a2 b s, message_eq (fun _ => rfl) a1 a2 _ s', rfl, rfl, ?_, htag.symm⟩
  exact (afterBlock_dout rfl .three _).trans hplain.symm

theorem exec_cofbBlock_payload {s : State} (hexp : s.exp = 3) (b : Block) :
    exec .cofbBlock { s with din := b } = .next (afterBlock .three b s) :=
  exec_cofbBlock_of_some (absorbIndex?_eq_some.2 ⟨congrArg Fin.val hexp, nofun⟩)

/-- Settles O53: one engine at the payload, once in each direction. -/
theorem payloadDirectionsAgree : Obligations.PayloadDirectionsAgree := by
  intro s c hexp
  have hsame : SameMessage { s with dir := .encrypt } { s with dir := .decrypt } :=
    ⟨rfl, rfl, rfl, rfl, rfl, rfl, rfl, rfl⟩
  have hplain := afterBlock_dout (s := { s with dir := .decrypt }) hexp .three c
  refine ⟨_, _, exec_cofbBlock_payload (s := { s with dir := .decrypt }) hexp c,
    exec_cofbBlock_payload (s := { s with dir := .encrypt }) hexp _, hplain, hsame.payload hexp rfl rfl hplain⟩

end Sys2Proof.Machine
end

section
/-! PROOF. The error record: which code an access records, what clears ERR, and that no data register counts
(spec/60_exceptions.md R200 to R205). -/

namespace Sys2Proof.Machine

/-! Refused or accepted. -/

/-- What an answer leaves of the error record: refused with a code, the record alone changes (R203); accepted, LAST_ERR
is `l` and ERR is `e`. -/
def Records (refusal : Option ErrorCode) (l : ErrorCode) (e : Bool) (s : State) (r : Result) : Prop :=
  match refusal with
  | some c => r = .next (s.raiseError c)
  | none => ∃ t, r = .next t ∧ t.lastErr = l ∧ t.err = e

/-- The record of the next state, refused or accepted. -/
theorem Records.next {refusal : Option ErrorCode} {l : ErrorCode} {e : Bool} {s t : State}
    (h : Records refusal l e s (.next t)) : t.err = (refusal.isSome || e) ∧ t.lastErr = refusal.getD l := by
  cases refusal with
  | some c =>
    cases h
    exact ⟨rfl, rfl⟩
  | none =>
    obtain ⟨u, hu, hlast, herr⟩ := h
    cases hu
    exact ⟨herr, hlast⟩

/-- An accepted command records OK (R204). -/
theorem records_accept {u : State} {e : Bool} (herr : u.err = e) (s : State) : Records none .ok e s (accept u) :=
  ⟨_, rfl, rfl, herr⟩

/-! Commands. -/

/-- The code a command is refused with for its phase, by its opcode (R202). -/
def phaseRefusal (o : Nat) (e : Fin 5) : Option ErrorCode :=
  if o = 0x62 ∧ Ref.phaseNumber e ≠ 1 then some .seqError
  else if (o = 0x23 ∨ o = 0x24) ∧ Ref.phaseNumber e = 1 then some .msgBusy
  else none

/-- COFB_BLOCK needs ABSORB (R202). -/
theorem phaseRefusal_cofbBlock (e : Fin 5) : phaseRefusal Instr.cofbBlock.opcode.toNat e =
    if phaseOf e = .absorb then none else some .seqError := by
  revert e; decide

/-- GF_OPER and GF_SEED are refused in ABSORB (R202). -/
theorem phaseRefusal_gfOper (i : Arg) (e : Fin 5) : phaseRefusal (Instr.gfOper i).opcode.toNat e =
    if phaseOf e = .absorb then some .msgBusy else none := by
  rw [show (Instr.gfOper i).opcode = 0x23 from rfl]
  revert e; decide

theorem phaseRefusal_gfSeed (e : Fin 5) : phaseRefusal Instr.gfSeed.opcode.toNat e =
    if phaseOf e = .absorb then some .msgBusy else none := by
  revert e; decide

/-- A well-formed command's argument is in range, so only the phase refuses it; SRESET alone clears ERR (R202, R204,
R205). -/
theorem exec_records {i : Instr} (hi : i.wellFormed = true) (s : State) :
    Records (phaseRefusal i.opcode.toNat s.exp) .ok (s.err && !decide (i = .sreset)) s (exec i s) := by
  cases i
  case cofbBlock =>
    rw [phaseRefusal_cofbBlock]
    cases hk : absorbIndex? s.exp with
    | none =>
      rw [if_neg (absorbIndex?_eq_none.1 hk)]
      exact exec_cofbBlock_of_none hk
    | some k =>
      have habsorb : phaseOf s.exp = .absorb := phaseOf_of_absorbIndex? hk
      rw [if_pos habsorb, exec_cofbBlock_of_some hk, absorbBlock_eq]
      exact records_accept (by simp) s
  case gfOper i =>
    have hrange : 1 ≤ i.toNat ∧ i.toNat ≤ 4 := of_decide_eq_true hi
    rw [phaseRefusal_gfOper]
    cases hk : operIndex? i with
    | none =>
      have := operIndex?_eq_none.1 hk
      omega
    | some k =>
      rw [exec_gfOper_of_some hk, State.phase]
      split
      · rfl
      · exact records_accept (by simp) s
  case gfSeed =>
    rw [phaseRefusal_gfSeed, exec, execGfSeed, State.phase]
    split
    · rfl
    · exact records_accept (by simp) s
  case nibRd p =>
    rw [exec_nibRd_of_le (of_decide_eq_true hi)]
    exact records_accept (by simp) s
  case nibWr p =>
    rw [exec_nibWr_of_le (of_decide_eq_true hi)]
    exact records_accept (by simp) s
  case round i =>
    have hk : roundIndex? i = some ⟨i.toNat, Nat.lt_succ_of_le (of_decide_eq_true hi)⟩ := roundIndex?_eq_some.2 rfl
    rw [exec_round_of_some hk]
    exact records_accept (by simp) s
  case ksRk i =>
    have hk : roundIndex? i = some ⟨i.toNat, Nat.lt_succ_of_le (of_decide_eq_true hi)⟩ := roundIndex?_eq_some.2 rfl
    rw [exec_ksRk_of_some hk]
    exact records_accept (by simp) s
  case cofbInitEnc | cofbInitDec => exact records_accept (by simp [msgInit]) s
  -- No other command has an argument or a phase of its own.
  all_goals exact records_accept (by simp) s

/-! Command words. -/

/-- A word that fails a check of R74 is refused with the check's code. -/
theorem wordRefusal_of_error {w : Word} {c : ErrorCode} (hw : decode w = .error c) (s : State) :
    Ref.wordRefusal s w = some c := by
  have hchecks := decode_checks w
  rw [hw] at hchecks
  split_ifs at hchecks with hopc hrsvd harg
  · cases hchecks
    exact if_pos hopc
  · cases hchecks
    exact (if_neg hopc).trans (if_pos hrsvd)
  · cases hchecks
    exact (if_neg hopc).trans ((if_neg hrsvd).trans (if_pos harg))
  · obtain ⟨i, hi⟩ := hchecks
    cases hi

/-- A word that passes them is refused for its phase, or not at all (R202). -/
theorem wordRefusal_of_ok {w : Word} {i : Instr} (hw : decode w = .ok i) (s : State) :
    Ref.wordRefusal s w = phaseRefusal (Ref.opc w) s.exp := by
  have hchecks := decode_checks w
  rw [hw] at hchecks
  split_ifs at hchecks with hopc hrsvd harg
  rw [Ref.wordRefusal, if_neg hopc, if_neg hrsvd, if_neg harg]
  rfl

/-- A word written to CMD is refused by R202's order, and else accepted (R204); SRESET's word is 1. -/
theorem dispatch_records (w : Word) (s : State) :
    Records (Ref.wordRefusal s w) .ok (s.err && !decide (w = 1)) s (dispatch w s) := by
  cases hw : decode w with
  | error c =>
    rw [wordRefusal_of_error hw]
    exact dispatch_of_error hw s
  | ok i =>
    obtain ⟨hwf, henc⟩ := (decodeAndEncodeAgree w i).1 hw
    obtain ⟨hopc, -, -⟩ := encode_eq_iff.1 henc
    have hreset : i = .sreset ↔ w = 1 := by rw [← decode_eq_sreset_iff, hw, Except.ok.injEq]
    rw [wordRefusal_of_ok hw, ← toNat_opcOf, ← hopc, dispatch_of_ok hw, ← decide_eq_decide.2 hreset]
    exact exec_records hwf s

/-! Accesses. -/

/-- The writes that clear ERR, by their offset: bit 7 to STATUS, SRESET's word to CMD (R205). -/
def clearingWrite (o : Nat) (v : Word) : Bool := (o == 0x70 && v.getLsbD 7) || (o == 0x78 && v == 1)

/-- The key and the nonce are locked in ABSORB (R202). -/
theorem writeRefusal_locked {o : Nat} (ho : o = 0x00 ∨ o = 0x08 ∨ o = 0x10) (v : Word) (s : State) :
    Ref.writeRefusal s o 8 v = if Ref.phaseNumber s.exp = 1 then some .locked else none := by
  obtain rfl | rfl | rfl := ho <;> simp [Ref.writeRefusal]

/-- A write of 8 bytes at a register's offset: CMD records its command, the others leave LAST_ERR when accepted
(R204). -/
theorem writeRegister_records (r : Register) (v : Word) (s : State) :
    Records (Ref.writeRefusal s (registerOffset r) 8 v) (if registerOffset r = 0x78 then .ok else s.lastErr)
      (s.err && !clearingWrite (registerOffset r) v) s (writeRegister r v s) := by
  cases r
  case CMD => exact dispatch_records v s
  case STATUS =>
    rw [writeRegister_STATUS]
    exact ⟨_, rfl, rfl, by simp [clearingWrite, registerOffset]⟩
  case KEY0 | KEY1 | NONCE =>
    rw [writeRefusal_locked (by decide), writeRegister, lockedWrite_eq]
    split
    · rfl
    · exact ⟨_, rfl, rfl, by simp [clearingWrite, registerOffset]⟩
  case DIN | OPA | OPB => exact ⟨_, rfl, rfl, by simp [clearingWrite, registerOffset]⟩
  -- The other registers are read-only.
  all_goals rfl

/-- The same of a write of any size at any offset: BAD_ACCESS comes first (R202). -/
theorem memWrite_records (o : Fin 128) (n : Nat) (v : Word) (s : State) :
    Records (Ref.writeRefusal s o.val n v) (if o.val = 0x78 then .ok else s.lastErr)
      (s.err && !clearingWrite o.val v) s (memWrite o n v s) := by
  by_cases haccess : n = 8 ∧ o.val % 8 = 0
  · obtain ⟨rfl, haligned⟩ := haccess
    rw [memWrite_accepted ⟨rfl, haligned⟩, ← registerOffset_registerAt haligned]
    exact writeRegister_records (registerAt o) v s
  · rw [memWrite_refused haccess, Ref.writeRefusal, if_pos (by omega)]
    rfl

/-- The same of a write issued with the reset input released. -/
theorem step_issue_write_records (s : State) (o : Fin 128) (n : Nat) (v : Word) :
    Records (Ref.writeRefusal s o.val n v) (if o.val = 0x78 then .ok else s.lastErr) (s.err && !clearingWrite o.val v)
      { s with resetAsserted := false } (step (s.issue (.write (128 * s.window + o.val) n v))) := by
  rw [step_issue_write, held_memWrite rfl]
  exact memWrite_records o n v { s with resetAsserted := false }

/-- Settles O13: a read by its size and offset, a write by `step_issue_write_records`. -/
theorem errorRecordIsPrecise : Obligations.ErrorRecordIsPrecise := by
  intro s o n v
  constructor
  · rw [hostReadReturnsRegister]
    split
    · rfl
    · exact ⟨_, rfl⟩
  · have hrecords := step_issue_write_records s o n v
    cases hrefusal : Ref.writeRefusal s o.val n v with
    | some c =>
      rw [hrefusal] at hrecords
      exact hrecords
    | none =>
      rw [hrefusal] at hrecords
      obtain ⟨t, ht, hlast, -⟩ := hrecords
      exact ⟨t, ht, hlast⟩

/-! ERR. -/

/-- A write that clears ERR is never refused (R202, R205). -/
theorem writeRefusal_of_clearing {o : Nat} {v : Word} (h : clearingWrite o v = true) (s : State) :
    Ref.writeRefusal s o 8 v = none := by
  simp only [clearingWrite, Bool.or_eq_true, Bool.and_eq_true, beq_iff_eq] at h
  obtain ⟨rfl, -⟩ | ⟨rfl, rfl⟩ := h
  · rfl
  · rfl

/-- A write of another size is refused (R202). -/
theorem size_of_writeRefusal {o n : Nat} {v : Word} {s : State} (h : Ref.writeRefusal s o n v = none) : n = 8 := by
  by_contra hn
  rw [Ref.writeRefusal, if_pos (.inl hn)] at h
  cases h

/-- Among the writes, R205 names those at STATUS and CMD. -/
theorem clearsErr_write_iff {s : State} {a n : Nat} {v : Word} : Ref.clearsErr s (.write a n v) ↔
    n = 8 ∧ ∃ o, a = 128 * s.window + o ∧ clearingWrite o v = true := by
  simp only [Ref.clearsErr, clearingWrite, BusEvent.write.injEq, Bool.or_eq_true, Bool.and_eq_true, beq_iff_eq,
    reduceCtorEq, or_false]
  constructor
  · rintro (⟨w, ⟨rfl, rfl, rfl⟩, hw⟩ | ⟨rfl, rfl, rfl⟩)
    · exact ⟨rfl, 0x70, rfl, .inl ⟨rfl, hw⟩⟩
    · exact ⟨rfl, 0x78, rfl, .inr ⟨rfl, rfl⟩⟩
  · rintro ⟨rfl, o, rfl, ⟨rfl, hv⟩ | ⟨rfl, rfl⟩⟩
    · exact .inl ⟨v, ⟨rfl, rfl, rfl⟩, hv⟩
    · exact .inr ⟨rfl, rfl, rfl⟩

theorem not_clearsErr_read (s : State) (a n : Nat) : ¬ Ref.clearsErr s (.read a n) := by
  simp [Ref.clearsErr]

/-- A write in the window clears ERR when it has 8 bytes and is one of the two that R205 names. -/
theorem clearsErr_write_window_iff {s : State} {o n : Nat} {v : Word} :
    Ref.clearsErr s (.write (128 * s.window + o) n v) ↔ n = 8 ∧ clearingWrite o v = true := by
  rw [clearsErr_write_iff]
  simp only [Nat.add_left_cancel_iff, exists_eq_left']

/-- No access outside the window clears ERR: STATUS and CMD are inside. -/
theorem not_clearsErr_write_outside {s : State} {a : Nat} (ha : a < 128 * s.window ∨ 128 * s.window + 128 ≤ a)
    (n : Nat) (v : Word) : ¬ Ref.clearsErr s (.write a n v) := by
  rw [clearsErr_write_iff]
  rintro ⟨-, o, rfl, hclear⟩
  have ho : o = 0x70 ∨ o = 0x78 := by
    simp only [clearingWrite, Bool.or_eq_true, Bool.and_eq_true, beq_iff_eq] at hclear
    exact hclear.imp And.left And.left
  omega

/-- A read records BAD_ACCESS or nothing, by its size and offset (R202). -/
theorem memRead_err_lastErr {o : Fin 128} {n : Nat} {s t : State} (h : memRead o n s = .next t) :
    t.err = (s.err || !accessOk o n) ∧ t.lastErr = if accessOk o n then s.lastErr else .badAccess := by
  cases haccess : accessOk o n with
  | true =>
    rw [memRead, if_pos haccess] at h
    cases h
    exact ⟨(Bool.or_false _).symm, rfl⟩
  | false =>
    rw [memRead, haccess] at h
    cases h
    exact ⟨(Bool.or_true _).symm, rfl⟩

/-- Settles O14: by what the event can do. -/
theorem errClearedOnlyByThree : Obligations.ErrClearedOnlyByThree := by
  intro s t e herr h
  obtain ⟨a, n, v, he, hout, rfl⟩ | ⟨o, n, rfl, hread⟩ | ⟨o, n, v, rfl, -⟩ | ⟨hchange, b, rfl⟩ :=
    step_issue_next_cases h
  · have hnot : ¬ Ref.clearsErr s e := by
      obtain rfl | rfl := he
      · exact not_clearsErr_read s a n
      · exact not_clearsErr_write_outside hout n v
    simp [herr, hnot]
  · have hkept := (memRead_err_lastErr hread).1
    simp [hkept, herr, not_clearsErr_read]
  · obtain ⟨hnext, -⟩ := (h ▸ step_issue_write_records s o n v).next
    rw [hnext, herr, clearsErr_write_window_iff, Bool.true_and, Bool.or_eq_false_iff, Option.isSome_eq_false_iff,
      Option.isNone_iff_eq_none, Bool.not_eq_false']
    constructor
    · exact fun ⟨haccepted, hclear⟩ => ⟨size_of_writeRefusal haccepted, hclear⟩
    · rintro ⟨rfl, hclear⟩
      exact ⟨writeRefusal_of_clearing hclear s, hclear⟩
  · have hclears : Ref.clearsErr s e := .inr (.inr hchange)
    exact ⟨fun _ => hclears, fun _ => rfl⟩

/-- The codes of a write depend on the state's phase alone. -/
theorem writeRefusal_congr {s s' : State} (h : s.exp = s'.exp) : Ref.writeRefusal s = Ref.writeRefusal s' := by
  funext o n v
  simp only [Ref.writeRefusal, Ref.wordRefusal, h]

/-- Settles O15: the event does the same kind of thing in both states, with the same refusal. -/
theorem errorsIgnoreData : Obligations.ErrorsIgnoreData := by
  intro s s' t t' e hwindow hexp herr hlast h h'
  obtain ⟨a, n, v, he, hout, rfl⟩ | ⟨o, n, rfl, hread⟩ | ⟨o, n, v, rfl, -⟩ | ⟨rfl | rfl, b, rfl⟩ :=
    step_issue_next_cases h
  · rw [hwindow] at hout
    rw [step_issue_outside hout (he.imp (fun h => ⟨n, h⟩) fun h => ⟨n, v, h⟩)] at h'
    cases h'
    exact ⟨herr, hlast⟩
  · rw [hwindow, step_issue_read, held_memRead rfl] at h'
    obtain ⟨hnext, hnextLast⟩ := memRead_err_lastErr hread
    obtain ⟨hnext', hnextLast'⟩ := memRead_err_lastErr h'
    rw [hnext, hnext', hnextLast, hnextLast']
    exact ⟨by rw [herr], by rw [hlast]⟩
  · obtain ⟨hnext, hnextLast⟩ := (h ▸ step_issue_write_records s o n v).next
    rw [hwindow] at h'
    obtain ⟨hnext', hnextLast'⟩ := (h' ▸ step_issue_write_records s' o n v).next
    rw [hnext, hnext', hnextLast, hnextLast', writeRefusal_congr hexp, herr, hlast]
    exact ⟨rfl, rfl⟩
  · cases h'
    exact ⟨rfl, rfl⟩
  · cases h'
    exact ⟨rfl, rfl⟩

end Sys2Proof.Machine
end
